-- ==== Sys2Proof/Word.lean ====
section
/-! DEFINITION. The words of the block: bytes, timestamps, positions and masks (spec/00_scope.md R10, R11). -/

namespace Sys2Proof

/-- A byte of the transport or of the row port: 8 bits (R10). -/
abbrev Byte := BitVec 8

/-- A timestamp or a deadline: TIME_W = 32 bits of milliseconds (R8, R11). -/
abbrev Time := BitVec 32

/-- A matrix position register: 0 to 79, or NO_KEY (R30, R106). -/
abbrev Pos := BitVec 8

/-- A modifier mask: bit 0 Ctrl, bit 1 LeftShift, bit 2 RightShift (R35). -/
abbrev Mask := BitVec 3

/-- A scancode ROM word (R71, R104). -/
abbrev RomWord := BitVec 16

end Sys2Proof
end

