-- ==== Sys2Proof/Config.lean ====
section
/-! DEFINITION. What an instance of the block fixes (spec/00_scope.md R8, R9): the byte constants, the decided policies,
the OPEN parameters, and the opaque draws that stand for the environment agents' answers. -/

namespace Sys2Proof.Config

/-! ## Byte constants (R8, R107, R108). The values of D6, D7 and D8 are UNVERIFIED (log 10). -/

/-- NO_KEY, "no key" (R8, R16). -/
def noKey : Pos := 0xFF
/-- COL_IDLE, the deselect code (R8, R42). -/
def colIdle : BitVec 4 := 0xF
/-- ACK, the acknowledge reply. -/
def ack : Byte := 0xFA
/-- BAT_OK, "self-test passed". -/
def batOk : Byte := 0xAA
/-- KBD_ID, the device-ID byte. -/
def kbdId : Byte := 0xAB
/-- PFX_EXT, the extended-key byte. -/
def pfxExt : Byte := 0xE0
/-- PFX_BREAK, the break byte. -/
def pfxBreak : Byte := 0xF0
/-- CODE_ALTGR, always sent behind PFX_EXT. -/
def codeAltGr : Byte := 0x11
/-- CODE_CTRL (D8). -/
def codeCtrl : Byte := 0x14
/-- CODE_RSHIFT (D8). -/
def codeRShift : Byte := 0x59
/-- CODE_SHIFT, the synthetic Shift (D8). -/
def codeShift : Byte := 0x12
/-- CODE_ECHO (D6). -/
def codeEcho : Byte := 0xEE
/-- SCANSET_REPLY, the 'set 2' indicator byte (D7). -/
def scansetReply : Byte := 0x02
/-- DEFAULT_DELAY_IDX (D14). -/
def defaultDelayIdx : BitVec 2 := 1
/-- DEFAULT_REPEAT_IDX (D14). -/
def defaultRepeatIdx : BitVec 5 := 11

/-! ## Decided policies (R8; log 8) -/

/-- Which modifier mask a repeat or a break is built from (R230, D19, D20). -/
inductive ModsPolicy where
  /-- LIVE: the mask of the current scan. -/
  | live
  /-- SNAP: MODS_SNAP. -/
  | snap
  deriving DecidableEq, Repr

/-- F3_BIT7, the treatment of bit 7 of the Set Typematic parameter (R103, D15). -/
inductive Bit7Policy where
  /-- IGNORE: P[7] has no effect. -/
  | ignoreBit
  /-- UNSPECIFIED: a parameter with P[7] = 1 is refused. -/
  | unspecified
  deriving DecidableEq, Repr

/-- The five policy parameters of R8, each at the value the spec decides unless given otherwise. -/
structure Policies where
  /-- REPEAT_MODS (D19). -/
  repeatMods : ModsPolicy := .live
  /-- BREAK_MODS (D20). -/
  breakMods : ModsPolicy := .snap
  /-- F3_BIT7 (D15). -/
  f3Bit7 : Bit7Policy := .ignoreBit
  /-- POWERON_BAT (D27). -/
  powerOnBat : Bool := false
  /-- DIAG_PRESENT (D33). -/
  diagPresent : Bool := false
  deriving DecidableEq, Repr

/-- The machine's policies: every one at the spec's decided value (log 8). -/
def policies : Policies := {}

/-! ## OPEN parameters (R8, R50; log 7) -/

/-- A matrix key by column and row (R15). -/
structure KeyAt where
  col : Fin 10
  row : Fin 8
  deriving DecidableEq, Repr, Inhabited

/-- The OPEN parameters of R8. They are fixed for the machine and are not state (R50). The millisecond parameters
are natural numbers below 2^32, so each is a `Time`. -/
structure Params where
  posCtrl : KeyAt
  posLShift : KeyAt
  posRShift : KeyAt
  romU : Fin 80 → RomWord
  romS : Fin 80 → RomWord
  debounceMs : Time
  delayMs : BitVec 2 → Time
  repeatMs : BitVec 5 → Time
  ledOnMs : Time
  ledCooldownMs : Time
  /-- Timing only: no rule reads it (R162, R365). -/
  tSettleUs : Nat
  /-- Timing only (R352). -/
  tReply : Nat
  /-- Timing only (R352). -/
  tReset : Nat
  deriving Inhabited

/-- A ROM word an admitted instance may hold: 0, or bits 15 to 11 zero and bits 7 to 0 not (R8, R104, D10). -/
def romWordOk (e : RomWord) : Bool :=
  e == 0 || (e.extractLsb' 11 5 == 0 && e.extractLsb' 0 8 != 0)

/-- The constraints R8 puts on an instance. One that breaks them has no meaning: `stepWith` and `pollWith` refuse it (R9). -/
def Params.admitted (P : Params) : Bool :=
  decide (P.posCtrl ≠ P.posLShift ∧ P.posCtrl ≠ P.posRShift ∧ P.posLShift ≠ P.posRShift) &&
  decide (∀ p : Fin 80, romWordOk (P.romU p) = true) &&
  decide (∀ p : Fin 80, romWordOk (P.romS p) = true) &&
  P.delayMs 1 == 500 && P.repeatMs 11 == 92 && decide (P.tReply < P.tReset)

/-- The fixture of spec/95_test_vectors.md §2. None of its values is the product's. -/
def fixture : Params where
  posCtrl := ⟨9, 0⟩
  posLShift := ⟨8, 0⟩
  posRShift := ⟨8, 5⟩
  romU p := match p.val with
    | 0x00 => 0x0029 | 0x0A => 0x001C | 0x0B => 0x0175 | 0x10 => 0x0415 | 0x11 => 0x0615
    | 0x12 => 0x054A | 0x13 => 0x0771 | 0x18 => 0x0016 | _ => 0
  romS p := match p.val with
    | 0x00 => 0x0029 | 0x0A => 0x021C | 0x0B => 0x0172 | 0x10 => 0x0415 | 0x11 => 0x0615
    | 0x12 => 0x054A | 0x13 => 0x0771 | 0x18 => 0x0216 | _ => 0
  debounceMs := 5
  delayMs i := match i.toNat with | 0 => 250 | 1 => 500 | 2 => 750 | _ => 1000
  repeatMs i := match i.toNat with | 0 => 33 | 11 => 92 | 31 => 500 | _ => 100
  ledOnMs := 50
  ledCooldownMs := 100
  tSettleUs := 0
  tReply := 0
  tReset := 1

/-- The fixture keeps the constraints of R8. -/
theorem fixture_admitted : fixture.admitted = true := by decide +kernel

/-- An instance the model gives a meaning to: parameters that keep the constraints of R8 (R9). -/
structure Instance where
  params : Params
  admitted : params.admitted = true

/-- The machine's instance: the value of an opaque function, so any instance R9 admits, and no more is known of it (log 7). -/
opaque drawnInstance : Function.End Instance

/-- The machine's OPEN parameters, which the source does not give (log 7). -/
def params : Params := (drawnInstance ⟨fixture, fixture_admitted⟩).params

/-- The machine's instance is one that R9 admits. -/
theorem params_admitted : params.admitted = true := (drawnInstance ⟨fixture, fixture_admitted⟩).admitted

/-! ## Opaque draws of the environment agents (R7; log 2). Each is applied to State's draw counter. -/

/-- By how many milliseconds the clock agent has advanced since its last read (R45). -/
opaque clockAdvance : Nat → Nat
/-- What ROW_N reads (R43). -/
opaque rowDraw : Nat → Byte
/-- What the host offers when an empty RX is consulted: a byte, or nothing (R44). -/
opaque hostOffer : Nat → Option Byte
/-- What the diagnostic terminal offers: a character, or nothing (R311). -/
opaque diagOffer : Nat → Option Byte
/-- The text of a diagnostic line, whose format the source does not give (R320, R322). -/
opaque diagText : Nat → List Byte
/-- MODS_LIVE after a pass of the diagnostic raw loop (R322). -/
opaque modsDraw : Nat → Mask

end Sys2Proof.Config
end

