-- ==== Sys2Proof/Machine/State.lean ====
section
/-! DEFINITION. The state of the block and of the environment agents around it, the reasons a step can stop, and the state
after power-on (spec/10_state.md R30 to R53, spec/70_reset_and_hazards.md R340, R341). -/

namespace Sys2Proof.Machine

/-- PHASE, the current sub-step of the poll loop (R30, R31). -/
inductive Phase where
  | kbd | host | diag | led
  deriving DecidableEq, Repr

/-- KS, the debounce/typematic state. Its two bits admit the unused value 3, which no rule writes (R30, R32; log 16). -/
inductive KeyState where
  | idle | cand | pressed | unused
  deriving DecidableEq, Repr

/-- HOST_WAIT: which parameter byte the responder is blocked on (R30, R47). -/
inductive HostWait where
  | none | wLeds | wScanset | wTypematic
  deriving DecidableEq, Repr

/-- Where the diagnostic sub-step stands (R320 to R322; log 20). -/
inductive DiagMode where
  /-- No diagnostic command is under way. -/
  | ready
  /-- After `s`: the first hex digit is awaited. -/
  | hexHigh
  /-- After `s` and one hex digit: the second is awaited. -/
  | hexLow (high : BitVec 4)
  /-- After `r`: the raw loop. -/
  | rawLoop
  deriving DecidableEq, Repr

/-- One event of the observation of R145: what happens at a port, or a wait (log 13). R145 does not say which port values are
observed. DESIGN CHOICE (log 14): the values of COL_SEL, ROW_N, LED_N and TX are events; a read of the clock port, a byte taken
from RX and the diagnostic channel's characters are not. -/
inductive PortEvent where
  /-- COL_SEL is driven to `c` (R42, R161, R167). -/
  | colSel (c : BitVec 4)
  /-- Wait(T_SETTLE_US) (R162). -/
  | settleWait
  /-- ROW_N is sampled and reads `r` (R163). -/
  | rowSample (r : Byte)
  /-- Wait(T_REPLY) (R352). -/
  | replyWait
  /-- Wait(T_RESET) (R270, R352). -/
  | resetWait
  /-- A byte is sent on TX (R44). -/
  | tx (b : Byte)
  /-- LED_N is driven to `v` (R46). -/
  | ledN (v : Bool)
  deriving DecidableEq, Repr

/-- One output on the diagnostic channel: the data shown and the text, whose format the source does not give
(R320, R322; log 21). -/
inductive DiagOutput where
  /-- `d`: CAND_POS and PRESSED_POS. -/
  | keyDump (cand pressed : Pos) (text : List Byte)
  /-- One line of the raw loop: the ten row bytes, inverted. -/
  | rawLine (rows : List Byte) (text : List Byte)
  deriving DecidableEq, Repr

/-- The state of the block (R30), its two byte streams (R44), and the environment agents (R7; log 2). A script holds an
agent's coming answers; when it is used up, the agent answers an opaque draw of Config at `draws`. -/
structure State where
  /-- PHASE. -/
  phase : Phase
  /-- KS. -/
  ks : KeyState
  /-- CAND_POS. -/
  candPos : Pos
  /-- DEB_DEADLINE. -/
  debDeadline : Time
  /-- PRESSED_POS. -/
  pressedPos : Pos
  /-- MODS_LIVE. -/
  modsLive : Mask
  /-- MODS_SNAP. -/
  modsSnap : Mask
  /-- TM_DEADLINE. -/
  tmDeadline : Time
  /-- CFG_DELAY_IDX. -/
  cfgDelayIdx : BitVec 2
  /-- CFG_REPEAT_IDX. -/
  cfgRepeatIdx : BitVec 5
  /-- HOST_WAIT. -/
  hostWait : HostWait
  /-- LED_ON. -/
  ledOn : Bool
  /-- LED_OFF_DL. -/
  ledOffDl : Time
  /-- LED_NEXT_DL. -/
  ledNextDl : Time
  /-- COL_SEL. -/
  colSel : BitVec 4
  /-- TX, first byte sent first. -/
  tx : List Byte
  /-- RX: the bytes the host has sent and the block has not taken, oldest first. -/
  rx : List Byte
  /-- The diagnostic sub-step's place in its command (log 20). -/
  diagMode : DiagMode
  /-- What the diagnostic channel has received, oldest first (log 21). -/
  diagOut : List DiagOutput
  /-- The clock agent's count of milliseconds from boot at its last read, before it is cut to TIME_W bits (R45; log 3). -/
  clockMs : Nat
  /-- The clock agent's coming advances, in milliseconds. -/
  clockScript : List Nat
  /-- The key-matrix agent's coming row samples. -/
  rowScript : List Byte
  /-- The host agent's coming offers, one for each time an empty RX is consulted. -/
  hostScript : List (Option Byte)
  /-- The diagnostic terminal's coming offers. -/
  diagScript : List (Option Byte)
  /-- How many opaque draws have been taken (log 2). -/
  draws : Nat
  /-- The port events so far, oldest first; which ports they show is the model's choice (log 14). -/
  trace : List PortEvent
  deriving DecidableEq, Repr

/-- Why the model stops with a fault. Each names a state that is a defect of a model and never of the hardware
(spec/93_implementation_defined.md, treatment "fault"). -/
inductive Fault where
  /-- Raised by the keyboard step when KS = 3 (R32, R180). Safe: the hardware never has this state. -/
  | keyStateUnused
  /-- Raised by the keyboard step when (a) to (d) of R48 do not hold. Safe: the hardware never has this state. -/
  | trackingBroken
  /-- Raised by a ROM read above position 79 (R75, R211). Safe: no step reaches it, since the keyboard step checks R48. -/
  | romIndexOutOfRange
  /-- Raised by LOOKUP of a modifier position (R211). Safe: no step reaches it, since the keyboard step checks R48. -/
  | lookupOfModifier
  deriving DecidableEq, Repr

/-- Why the model gives a run no meaning. -/
inductive Refusal where
  /-- The instruction has no meaning in the model yet. Raised by exec only. Safe: nothing is claimed of it. -/
  | notModelled (mnemonic : String)
  /-- Raised by the Set Typematic completion for a parameter with bit 7 set under F3_BIT7 = UNSPECIFIED (R103, R258).
  Safe. The machine's policy is IGNORE, under which it is never raised. -/
  | typematicBit7
  /-- Raised by every step and every poll of an instance whose parameters break the constraints of R8 (R9). Safe: nothing is
  claimed of it. Never raised by the machine, whose instance is admitted (log 7). -/
  | parametersNotAdmitted
  /-- Raised by the diagnostic `s` command for a character that is no hex digit (R321). Safe: the source does not say
  what happens. Never raised while DIAG_PRESENT is false. -/
  | diagNonHex
  deriving DecidableEq, Repr

/-- The outcome of one operation that may stop. -/
abbrev Result := Host.Outcome State Fault Refusal

/-- The state at power-on with POWERON_BAT = `bat`: every register at its reset value (R30, R49, R340), and [BAT_OK] sent
before the first poll when `bat` is true (R341). The model's own fields are empty or 0 (DESIGN CHOICE, log 12). -/
def State.powerOn (bat : Bool) : State where
  phase := .kbd
  ks := .idle
  candPos := Config.noKey
  debDeadline := 0
  pressedPos := Config.noKey
  modsLive := 0
  modsSnap := 0
  tmDeadline := 0
  cfgDelayIdx := Config.defaultDelayIdx
  cfgRepeatIdx := Config.defaultRepeatIdx
  hostWait := .none
  ledOn := false
  ledOffDl := 0
  ledNextDl := 0
  colSel := Config.colIdle
  tx := if bat then [Config.batOk] else []
  rx := []
  diagMode := .ready
  diagOut := []
  clockMs := 0
  clockScript := []
  rowScript := []
  hostScript := []
  diagScript := []
  draws := 0
  trace := if bat then [.tx Config.batOk] else []

/-- The machine right after power-on (R49, R340), at the machine's POWERON_BAT. -/
def State.reset : State := State.powerOn Config.policies.powerOnBat

end Sys2Proof.Machine
end

