-- ==== Sys2Proof/Machine/Flags.lean ====
section
/-! DEFINITION. The block has no arithmetic flags (spec/10_state.md R53). Its Boolean bits are those of a modifier mask (R35)
and LED_ON, which drives LED_N (R46). -/

namespace Sys2Proof.Machine

/-- Mask bit 0: Ctrl (R35). -/
def maskCtrl (m : Mask) : Bool := m.getLsbD 0

/-- Mask bit 1: LeftShift (R35). -/
def maskLShift (m : Mask) : Bool := m.getLsbD 1

/-- Mask bit 2: RightShift (R35). -/
def maskRShift (m : Mask) : Bool := m.getLsbD 2

/-- The mask with the given bits (R35). -/
def maskOf (ctrl lshift rshift : Bool) : Mask := BitVec.ofBool rshift ++ BitVec.ofBool lshift ++ BitVec.ofBool ctrl

/-- LED_N = NOT LED_ON at all times (R46). -/
def State.ledN (s : State) : Bool := !s.ledOn

end Sys2Proof.Machine
end

