-- ==== Sys2Proof/Machine/Operands.lean ====
section
/-! DEFINITION. The operand forms of the block's operations: positions, ROM word fields, time (spec/00_scope.md R11, R15,
spec/30_encoding.md R104, R106, spec/43_rom_lookup.md R213). The parameter byte's fields stand in Decode.lean. -/

namespace Sys2Proof.Machine

/-- pos(c, r) = (c << 3) | r (R15). -/
def posOf (c : Fin 10) (r : Fin 8) : Pos := BitVec.ofNat 8 (8 * c.val + r.val)

/-- col(p) = p >> 3 (R15). -/
def colOf (p : Pos) : Nat := p.toNat / 8

/-- row(p) = p & 7 (R15). -/
def rowOf (p : Pos) : Nat := p.toNat % 8

/-- The packed position of a key. -/
def keyPos (k : Config.KeyAt) : Pos := posOf k.col k.row

/-- `p` is POS_CTRL, POS_LSHIFT or POS_RSHIFT (R77). -/
def isModifierPos (P : Config.Params) (p : Pos) : Bool :=
  p == keyPos P.posCtrl || p == keyPos P.posLShift || p == keyPos P.posRShift

/-- CODE(E) = E[7:0] (R213). -/
def romCode (e : RomWord) : Byte := e.extractLsb' 0 8

/-- EXT(E) = E[8] (R213). -/
def romExt (e : RomWord) : Bool := e.getLsbD 8

/-- SYN_SHIFT(E) = E[9] (R213). -/
def romSynShift (e : RomWord) : Bool := e.getLsbD 9

/-- SYN_ALTGR(E) = E[10] (R213). -/
def romSynAltGr (e : RomWord) : Bool := e.getLsbD 10

/-- MAPPED(E) = (E ≠ 0), on the whole word (R213, D40). -/
def romMapped (e : RomWord) : Bool := e != 0

/-- a +_T b, modulo 2^32 (R11). -/
def timeAdd (a b : Time) : Time := a + b

/-- now >=_T d, the plain unsigned comparison, not wrap-safe (R11, D3). -/
def timeReached (now d : Time) : Bool := decide (d.toNat ≤ now.toNat)

end Sys2Proof.Machine
end

