-- ==== Sys2Proof/Syntax.lean ====
section
/-! DEFINITION. The host commands: one constructor per row of spec/opcode_table.json (spec/30_encoding.md R100, R111). -/

namespace Sys2Proof

/-- A host-to-device command with its parameter, if it has one (R100, R102, R111, R112). -/
inductive Instr where
  /-- SETLEDS p, byte 0xED, format CMDP. -/
  | setleds (p : Byte)
  /-- ECHO, byte 0xEE. -/
  | echo
  /-- SCANSET p, byte 0xF0, format CMDP. -/
  | scanset (p : Byte)
  /-- READID, byte 0xF2. -/
  | readid
  /-- TYPEMATIC, byte 0xF3, format CMDP; the parameter's fields RSVD, DELAY and RATE (R103). -/
  | typematic (rsvd : BitVec 1) (delay : BitVec 2) (rate : BitVec 5)
  /-- ENABLE, byte 0xF4. -/
  | enable
  /-- DISABLE, byte 0xF5. -/
  | disable
  /-- DEFAULT, byte 0xF6. -/
  | setdefault
  /-- ALLTYPEM, byte 0xF7. -/
  | alltypem
  /-- ALLMB, byte 0xF8. -/
  | allmb
  /-- ALLMAKE, byte 0xF9. -/
  | allmake
  /-- ALLTMB, byte 0xFA. -/
  | alltmb
  /-- KEYTYPEM, byte 0xFB. -/
  | keytypem
  /-- KEYMB, byte 0xFC. -/
  | keymb
  /-- KEYMAKE, byte 0xFD. -/
  | keymake
  /-- RESEND, byte 0xFE. -/
  | resend
  /-- RESET, byte 0xFF. -/
  | reset
  /-- BYTE b: any of the 239 bytes no other row matches. -/
  | byte (b : Byte)
  deriving DecidableEq, Repr

end Sys2Proof
end

