-- ==== Sys2Proof/WellFormed.lean ====
section
/-! DEFINITION. Which terms of `Instr` are instructions (spec/30_encoding.md R111), and which bytes a position register
may hold (spec/30_encoding.md R106). -/

namespace Sys2Proof

/-- The 17 command bytes of the opcode map (R111). The values are UNVERIFIED (D5; log 9). -/
def recognisedBytes : List Byte :=
  [0xED, 0xEE, 0xF0, 0xF2, 0xF3, 0xF4, 0xF5, 0xF6, 0xF7, 0xF8, 0xF9, 0xFA, 0xFB, 0xFC, 0xFD, 0xFE, 0xFF]

/-- A byte of the opcode map of R111. -/
def recognised (b : Byte) : Bool := recognisedBytes.contains b

/-- BYTE stands for the 239 unrecognized bytes only (R111). Every parameter value is accepted (R105, R272), so
nothing else can be ill-formed. -/
def Instr.wellFormed : Instr → Bool
  | .byte b => !recognised b
  | .setleds _ => true
  | .echo => true
  | .scanset _ => true
  | .readid => true
  | .typematic _ _ _ => true
  | .enable => true
  | .disable => true
  | .setdefault => true
  | .alltypem => true
  | .allmb => true
  | .allmake => true
  | .alltmb => true
  | .keytypem => true
  | .keymb => true
  | .keymake => true
  | .resend => true
  | .reset => true

/-- A value a position register may hold: 0 to 79, or NO_KEY (R30, R106). -/
def posLegal (p : Pos) : Bool := decide (p.toNat < 80) || p == Config.noKey

end Sys2Proof
end

