-- ==== Sys2Proof/Decode.lean ====
section
/-! DEFINITION. The decoder of host commands, total on any bytes, and the encoder (spec/30_encoding.md R100 to R103,
R111). Bytes stand in the order they arrive. -/

namespace Sys2Proof

/-- Why a byte list is not yet an instruction. -/
inductive DecodeError where
  /-- There is no byte. -/
  | noByte
  /-- The command byte is there and its parameter byte is not. -/
  | awaitsParameter (command : Byte)
  deriving DecidableEq, Repr

/-- How many bytes the command that begins with `b` has: two for the CMDP commands, one for every other byte (R102). -/
def commandLength (b : Byte) : Nat :=
  if b = 0xED then 2 else if b = 0xF0 then 2 else if b = 0xF3 then 2 else 1

/-- RSVD of the Set Typematic parameter: P[7] (R103). -/
def paramRsvd (p : Byte) : BitVec 1 := p.extractLsb' 7 1
/-- DELAY of the Set Typematic parameter: P[6:5] (R103). -/
def paramDelay (p : Byte) : BitVec 2 := p.extractLsb' 5 2
/-- RATE of the Set Typematic parameter: P[4:0] (R103). -/
def paramRate (p : Byte) : BitVec 5 := p.extractLsb' 0 5

/-- The two formats of a command (R100). -/
inductive Format where
  /-- CMD: the command byte alone. -/
  | cmd (i : Instr)
  /-- CMDP: the next byte is the parameter, whatever its value (R102, R272). -/
  | cmdp (withParam : Byte → Instr)

/-- The opcode map of R111. Its byte values are UNVERIFIED (D5; log 9). -/
def opcodeMap : List (Byte × Format) :=
  [(0xED, .cmdp .setleds),
   (0xEE, .cmd .echo),
   (0xF0, .cmdp .scanset),
   (0xF2, .cmd .readid),
   (0xF3, .cmdp fun p => .typematic (paramRsvd p) (paramDelay p) (paramRate p)),
   (0xF4, .cmd .enable),
   (0xF5, .cmd .disable),
   (0xF6, .cmd .setdefault),
   (0xF7, .cmd .alltypem),
   (0xF8, .cmd .allmb),
   (0xF9, .cmd .allmake),
   (0xFA, .cmd .alltmb),
   (0xFB, .cmd .keytypem),
   (0xFC, .cmd .keymb),
   (0xFD, .cmd .keymake),
   (0xFE, .cmd .resend),
   (0xFF, .cmd .reset)]

/-- The whole command byte is compared with the map; any other byte is BYTE (R101, R111). -/
def formatOf (b : Byte) : Format :=
  match opcodeMap.find? fun row => row.1 == b with
  | some row => row.2
  | none => .cmd (.byte b)

/-- The first command of a byte list and the bytes after it (R100, R102, R111). -/
def decode : List Byte → Except DecodeError (Instr × List Byte)
  | [] => .error .noByte
  | b :: rest =>
    match formatOf b, rest with
    | .cmd i, rest => .ok (i, rest)
    | .cmdp withParam, p :: rest => .ok (withParam p, rest)
    | .cmdp _, [] => .error (.awaitsParameter b)

/-- The Set Typematic parameter byte with the given fields (R103). -/
def typematicParam (rsvd : BitVec 1) (delay : BitVec 2) (rate : BitVec 5) : Byte := rsvd ++ delay ++ rate

/-- A command's encoding: its byte, or its two bytes for CMDP (R111, R112). -/
def encode : Instr → List Byte
  | .setleds p => [0xED, p]
  | .echo => [0xEE]
  | .scanset p => [0xF0, p]
  | .readid => [0xF2]
  | .typematic rsvd delay rate => [0xF3, typematicParam rsvd delay rate]
  | .enable => [0xF4]
  | .disable => [0xF5]
  | .setdefault => [0xF6]
  | .alltypem => [0xF7]
  | .allmb => [0xF8]
  | .allmake => [0xF9]
  | .alltmb => [0xFA]
  | .keytypem => [0xFB]
  | .keymb => [0xFC]
  | .keymake => [0xFD]
  | .resend => [0xFE]
  | .reset => [0xFF]
  | .byte b => [b]

/-- The two bytes of the longest command, from bits numbered as spec/opcode_table.json numbers them: byte 0 is bits
7 to 0 and byte 1 is bits 15 to 8; bits from `nbits` on are 0. -/
def tableWordBytes (nbits w : Nat) : List Byte :=
  [BitVec.ofNat 8 (w % 2 ^ nbits), BitVec.ofNat 8 (w % 2 ^ nbits / 256)]

/-- The instruction the decoder reads from a table word. -/
def decodeTableWord (nbits w : Nat) : Option Instr :=
  match decode (tableWordBytes nbits w) with
  | .ok (i, _) => some i
  | .error _ => none

end Sys2Proof
end

