-- ==== Sys2Proof/Machine/Ops.lean ====
section
/-! DEFINITION. The primitives of spec/00_scope.md R13 and the sequencing of outcomes. The block takes no exception and
returns from none (spec/60_exceptions.md R300, R304, R305), so there is no operation for either. -/

namespace Sys2Proof.Machine

/-- Do `f` after an operation that went on. -/
def andThen (o : Result) (f : State → Result) : Result :=
  match o with
  | .next s => f s
  | .fault r => .fault r
  | .refused r => .refused r

/-- Change the state of an operation that went on. -/
def onNext (o : Result) (f : State → State) : Result := andThen o fun s => .next (f s)

/-- PHASE <- p (R140). -/
def State.setPhase (s : State) (p : Phase) : State := { s with phase := p }

/-- Events added to the observation (R145). -/
def State.observe (s : State) (es : List PortEvent) : State := { s with trace := s.trace ++ es }

/-! ## Emit and the reply waits (R44, R250, R352) -/

/-- Emit(bs): append the bytes to TX in order (R13, R44). -/
def State.emit (s : State) (bs : List Byte) : State :=
  { s with tx := s.tx ++ bs, trace := s.trace ++ bs.map .tx }

/-- Wait(T_REPLY); Emit([b]). -/
def State.reply (s : State) (b : Byte) : State := (s.observe [.replyWait]).emit [b]

/-- Wait(T_RESET); Emit([b]). -/
def State.replyAfterReset (s : State) (b : Byte) : State := (s.observe [.resetWait]).emit [b]

/-! ## The clock port (R45; log 3) -/

/-- By how much the clock agent advances before the next read. -/
def State.nextAdvance (s : State) : Nat := s.clockScript.headD (Config.clockAdvance s.draws)

/-- The state after Now() is read. -/
def State.readClock (s : State) : State :=
  { s with
    clockMs := s.clockMs + s.nextAdvance
    clockScript := s.clockScript.tail
    draws := if s.clockScript.isEmpty then s.draws + 1 else s.draws }

/-- The count the clock port showed at its last read: the low TIME_W bits of the count from boot. -/
def State.now (s : State) : Time := BitVec.ofNat 32 s.clockMs

/-! ## The key-matrix port (R42, R43; log 4) -/

/-- The column-select code of a column, or COL_IDLE when there is none; the codes 10 to 14 do not arise (R42, R106). -/
def columnCode : Option (Fin 10) → BitVec 4
  | some c => BitVec.ofNat 4 c.val
  | none => Config.colIdle

/-- Drive(c) (R13, R42). -/
def State.drive (s : State) (c : Option (Fin 10)) : State :=
  { s with colSel := columnCode c, trace := s.trace ++ [.colSel (columnCode c)] }

/-- What the next RowSample() reads. -/
def State.nextRow (s : State) : Byte := s.rowScript.headD (Config.rowDraw s.draws)

/-- The state after one RowSample(). -/
def State.sampleRow (s : State) : State :=
  { s with
    trace := s.trace ++ [.rowSample s.nextRow]
    rowScript := s.rowScript.tail
    draws := if s.rowScript.isEmpty then s.draws + 1 else s.draws }

/-! ## The host side of the transport (R44; log 5) -/

/-- What the host offers at the next consultation of an RX that is too short. -/
def State.nextOffer (s : State) : Option Byte := s.hostScript.headD (Config.hostOffer s.draws)

/-- The state after the host is asked for one byte: a byte it offers is on RX. -/
def State.askHost (s : State) : State :=
  { s with
    rx := s.rx ++ s.nextOffer.toList
    hostScript := s.hostScript.tail
    draws := if s.hostScript.isEmpty then s.draws + 1 else s.draws }

/-- The state after the transport is consulted for an `n`-th byte: the host is asked only when RX holds fewer. -/
def State.awaitBytes (s : State) (n : Nat) : State := if s.rx.length < n then s.askHost else s

/-- The state with `rest` left on RX: the bytes before it have been taken by HostRead() (R44, R76). -/
def State.takeRx (s : State) (rest : List Byte) : State := { s with rx := rest }

/-! ## The diagnostic channel (R311; log 20, 21) -/

/-- What the diagnostic terminal offers next. -/
def State.nextDiag (s : State) : Option Byte := s.diagScript.headD (Config.diagOffer s.draws)

/-- The state after the diagnostic channel is asked for one character. -/
def State.askDiag (s : State) : State :=
  { s with
    diagScript := s.diagScript.tail
    draws := if s.diagScript.isEmpty then s.draws + 1 else s.draws }

/-- One output on the diagnostic channel, its text drawn (R320, R322). -/
def State.diagWrite (s : State) (line : List Byte → DiagOutput) : State :=
  { s with diagOut := s.diagOut ++ [line (Config.diagText s.draws)], draws := s.draws + 1 }

end Sys2Proof.Machine
end

