-- ==== Sys2Proof/Machine/Scanner.lean ====
section
/-! DEFINITION. The matrix scanner: SCAN (spec/41_scanner.md R160 to R168). The ten samples are taken first, in order; the
position and the mask are then the fold of R160's loop over them, which takes nothing but the samples. -/

namespace Sys2Proof.Machine

/-- One column and the row byte sampled for it. -/
abbrev Sample := Fin 10 × Byte

/-- The columns in the order SCAN visits them (R161). -/
def scanOrder : List (Fin 10) := [0, 1, 2, 3, 4, 5, 6, 7, 8, 9]

/-- The state just before the row lines of column `c` are sampled: driven, settled (R161, R162). -/
def State.select (s : State) (c : Fin 10) : State := (s.drive (some c)).observe [.settleWait]

/-- What the given columns sample, in order, from a state (R163, R168). -/
def samplesOf : List (Fin 10) → State → List Sample
  | [], _ => []
  | c :: cs, s => (c, (s.select c).nextRow) :: samplesOf cs (s.select c).sampleRow

/-- The state after the given columns are driven, settled and sampled in order. -/
def afterSamples : List (Fin 10) → State → State
  | [], s => s
  | c :: cs, s => afterSamples cs (s.select c).sampleRow

/-- Row `r` reads pressed in a row byte: the lines are active-low (R43, R163). -/
def rowPressed (rows : Byte) (r : Fin 8) : Bool := !rows.getLsbD r.val

/-- A row byte with the row of a modifier of column `c` masked out, read as not pressed (R164). -/
def maskModifier (k : Config.KeyAt) (c : Fin 10) (rows : Byte) : Byte :=
  if k.col = c then rows ||| BitVec.twoPow 8 k.row.val else rows

/-- A row byte of column `c` with all three modifier rows masked out (R164). -/
def maskModifiers (P : Config.Params) (c : Fin 10) (rows : Byte) : Byte :=
  maskModifier P.posRShift c (maskModifier P.posLShift c (maskModifier P.posCtrl c rows))

/-- min of the pressed rows of a row byte, if any is pressed (R160, R165). -/
def firstRow (rows : Byte) : Option (Fin 8) :=
  [0, 1, 2, 3, 4, 5, 6, 7].find? (rowPressed rows)

/-- The first pressed non-modifier position of the samples, or NO_KEY (R160, R165). -/
def scanPos (P : Config.Params) : List Sample → Pos
  | [] => Config.noKey
  | (c, rows) :: rest =>
    match firstRow (maskModifiers P c rows) with
    | some r => posOf c r
    | none => scanPos P rest

/-- A modifier's row bit read 0 in the sample of its column (R164). -/
def modifierDown (k : Config.KeyAt) (samples : List Sample) : Bool :=
  samples.any fun x => decide (x.1 = k.col) && rowPressed x.2 k.row

/-- The modifier mask of the samples (R164, R166). -/
def scanMods (P : Config.Params) (samples : List Sample) : Mask :=
  maskOf (modifierDown P.posCtrl samples) (modifierDown P.posLShift samples) (modifierDown P.posRShift samples)

/-- The position SCAN() returns from a state (R160). -/
def scanKey (P : Config.Params) (s : State) : Pos := scanPos P (samplesOf scanOrder s)

/-- The mask SCAN() returns from a state (R160). -/
def scanMask (P : Config.Params) (s : State) : Mask := scanMods P (samplesOf scanOrder s)

/-- The state after SCAN(): ten columns sampled, COL_SEL idle (R167), MODS_LIVE written (R166). -/
def afterScan (P : Config.Params) (s : State) : State :=
  { (afterSamples scanOrder s).drive none with modsLive := scanMask P s }

end Sys2Proof.Machine
end

