-- ==== Sys2Proof/Machine/Diag.lean ====
section
/-! DEFINITION. DIAG_STEP, the optional diagnostic channel's responder (spec/60_exceptions.md R311, R320 to R322). The machine
has DIAG_PRESENT = false, under which the sub-step is empty (log 8, 20). -/

namespace Sys2Proof.Machine

/-- The value of a hex digit character, either case (R321). -/
def hexValue (c : Byte) : Option (BitVec 4) :=
  if 0x30 ≤ c.toNat ∧ c.toNat ≤ 0x39 then some (BitVec.ofNat 4 (c.toNat - 0x30))
  else if 0x41 ≤ c.toNat ∧ c.toNat ≤ 0x46 then some (BitVec.ofNat 4 (c.toNat - 0x41 + 10))
  else if 0x61 ≤ c.toNat ∧ c.toNat ≤ 0x66 then some (BitVec.ofNat 4 (c.toNat - 0x61 + 10))
  else none

/-- The end of a diagnostic command: on to the LED step (R140). -/
def State.endDiag (s : State) : State := { s with diagMode := .ready, phase := .led }

/-- `d`: the two position registers are shown on the diagnostic channel (R320). -/
def diagDump (s : State) : State := (s.diagWrite (.keyDump s.candPos s.pressedPos)).endDiag

/-- `s` with both digits: the synthetic pair [x, 0xF0, x] on TX, no register changed (R321). -/
def diagSend (high low : BitVec 4) (s : State) : State :=
  (s.emit [high ++ low, Config.pfxBreak, high ++ low]).endDiag

/-- One pass of the raw loop: ten columns sampled, one line written, MODS_LIVE any value (R322; log 21). -/
def rawPass (s : State) : State :=
  let scanned := (afterSamples scanOrder s).drive none
  let shown := scanned.diagWrite (.rawLine ((samplesOf scanOrder s).map fun x => ~~~x.2))
  { shown with modsLive := Config.modsDraw shown.draws, draws := shown.draws + 1 }

/-- The first character of a diagnostic command: `d` is 0x64, `s` is 0x73, `r` is 0x72 (R320). -/
def diagCommand (c : Byte) (s : State) : State :=
  if c = 0x64 then diagDump s
  else if c = 0x73 then { s with diagMode := .hexHigh }
  else if c = 0x72 then { s with diagMode := .rawLoop }
  else s.endDiag

/-- DIAG_STEP with DIAG_PRESENT = true, one character at most (R311, R320 to R322). A command that awaits a character holds
with PHASE at DIAG. -/
def diagPresentStep (s : State) : Result :=
  let asked := s.askDiag
  match s.diagMode, s.nextDiag with
  | .ready, none => .next asked.endDiag
  | .ready, some c => .next (diagCommand c asked)
  | .hexHigh, none => .next asked
  | .hexHigh, some c =>
    match hexValue c with
    | some h => .next { asked with diagMode := .hexLow h }
    | none => .refused .diagNonHex
  | .hexLow _, none => .next asked
  | .hexLow h, some c =>
    match hexValue c with
    | some l => .next (diagSend h l asked)
    | none => .refused .diagNonHex
  | .rawLoop, none => .next (rawPass asked)
  | .rawLoop, some _ => .next asked.endDiag

/-- The DIAG sub-step: empty when DIAG_PRESENT is false (R140, R311). -/
def diagStep (present : Bool) (s : State) : Result :=
  if present then diagPresentStep s else .next (s.setPhase .led)

end Sys2Proof.Machine
end

