-- ==== Sys2Proof/Machine/Commands.lean ====
section
/-! DEFINITION. The meanings of the host commands (spec/45_host_commands.md R251 to R272), on a state from which the
command's bytes have been taken. A CMDP command is its first half followed by its completion. -/

namespace Sys2Proof.Machine

/-- The first half of a CMDP command: the ACK, and the parameter awaited (R251, R254, R257). -/
def beginParameter (w : HostWait) (s : State) : State := { s.reply Config.ack with hostWait := w }

/-- HOST_WAIT <- NONE (R252, R255, R258). -/
def State.endWait (s : State) : State := { s with hostWait := .none }

/-- SETLEDS completion: the parameter is discarded and acknowledged (R252, R105). -/
def completeSetLeds (_p : Byte) (s : State) : Result := .next (s.reply Config.ack).endWait

/-- SCANSET completion: ACK, and the 'set 2' indicator for a query (R255). -/
def completeScanSet (p : Byte) (s : State) : Result :=
  if p = 0 then .next ((s.reply Config.ack).reply Config.scansetReply).endWait
  else .next (s.reply Config.ack).endWait

/-- TYPEMATIC completion under an F3_BIT7 policy: the two configuration fields (R258, R103). -/
def completeTypematic (pol : Config.Bit7Policy) (rsvd : BitVec 1) (delay : BitVec 2) (rate : BitVec 5) (s : State) :
    Result :=
  if rsvd = 1 ∧ pol = .unspecified then .refused .typematicBit7
  else .next { s with cfgDelayIdx := delay, cfgRepeatIdx := rate, hostWait := .none }

/-- The completion a HOST_WAIT value stands for, with the parameter byte that arrived (R47, R272). -/
def completeParameter (w : HostWait) (p : Byte) (s : State) : Result :=
  match w with
  | .none => .next s
  | .wLeds => completeSetLeds p s
  | .wScanset => completeScanSet p s
  | .wTypematic => completeTypematic Config.policies.f3Bit7 (paramRsvd p) (paramDelay p) (paramRate p) s

/-- SETLEDS p (R251, R252). -/
def execSetleds (p : Byte) (s : State) : Result := completeSetLeds p (beginParameter .wLeds s)

/-- ECHO (R253). -/
def execEcho (s : State) : Result := .next (s.reply Config.codeEcho)

/-- SCANSET p (R254, R255). -/
def execScanset (p : Byte) (s : State) : Result := completeScanSet p (beginParameter .wScanset s)

/-- READID: the device-ID byte twice, no ACK (R256). -/
def execReadid (s : State) : Result := .next ((s.reply Config.kbdId).reply Config.kbdId)

/-- TYPEMATIC: ACK, then the configuration, no second ACK (R257, R258). -/
def execTypematic (rsvd : BitVec 1) (delay : BitVec 2) (rate : BitVec 5) (s : State) : Result :=
  completeTypematic Config.policies.f3Bit7 rsvd delay rate (beginParameter .wTypematic s)

/-- ENABLE (R259). -/
def execEnable (s : State) : Result := .next (s.reply Config.ack)

/-- DISABLE: there is no enable flag, and reporting goes on (R260, R51). -/
def execDisable (s : State) : Result := .next (s.reply Config.ack)

/-- DEFAULT: the default configuration, no reply (R261). -/
def execSetdefault (s : State) : Result :=
  .next { s with cfgDelayIdx := Config.defaultDelayIdx, cfgRepeatIdx := Config.defaultRepeatIdx }

/-- ALLTYPEM: recognized, no reply, no state (R262). -/
def execAlltypem (s : State) : Result := .next s

/-- ALLMB: recognized, no reply, no state (R263). -/
def execAllmb (s : State) : Result := .next s

/-- ALLMAKE: recognized, no reply, no state (R264). -/
def execAllmake (s : State) : Result := .next s

/-- ALLTMB: recognized, no reply, no state (R265). -/
def execAlltmb (s : State) : Result := .next s

/-- KEYTYPEM: recognized, no reply, no state, no parameter read (R266). -/
def execKeytypem (s : State) : Result := .next s

/-- KEYMB: recognized, no reply, no state, no parameter read (R267). -/
def execKeymb (s : State) : Result := .next s

/-- KEYMAKE: recognized, no reply, no state, no parameter read (R268). -/
def execKeymake (s : State) : Result := .next s

/-- RESEND: nothing is retransmitted, since nothing is kept (R269, R302). -/
def execResend (s : State) : Result := .next s

/-- RESET: ACK, then after the longer wait BAT_OK; no register changes (R270, R342). -/
def execReset (s : State) : Result := .next ((s.reply Config.ack).replyAfterReset Config.batOk)

/-- BYTE b: silently ignored (R271). -/
def execByte (_b : Byte) (s : State) : Result := .next s

end Sys2Proof.Machine
end

