-- ==== Sys2Proof/Machine/Dispatch.lean ====
section
/-! DEFINITION. Which meaning each host command has (spec/45_host_commands.md R250). -/

namespace Sys2Proof.Machine

def exec (i : Instr) (s : State) : Host.Outcome State Fault Refusal :=
  match i with
  | .setleds p => Sys2Proof.Machine.execSetleds p s
  | .echo => Sys2Proof.Machine.execEcho s
  | .scanset p => Sys2Proof.Machine.execScanset p s
  | .readid => Sys2Proof.Machine.execReadid s
  | .typematic rsvd delay rate => Sys2Proof.Machine.execTypematic rsvd delay rate s
  | .enable => Sys2Proof.Machine.execEnable s
  | .disable => Sys2Proof.Machine.execDisable s
  | .setdefault => Sys2Proof.Machine.execSetdefault s
  | .alltypem => Sys2Proof.Machine.execAlltypem s
  | .allmb => Sys2Proof.Machine.execAllmb s
  | .allmake => Sys2Proof.Machine.execAllmake s
  | .alltmb => Sys2Proof.Machine.execAlltmb s
  | .keytypem => Sys2Proof.Machine.execKeytypem s
  | .keymb => Sys2Proof.Machine.execKeymb s
  | .keymake => Sys2Proof.Machine.execKeymake s
  | .resend => Sys2Proof.Machine.execResend s
  | .reset => Sys2Proof.Machine.execReset s
  | .byte b => Sys2Proof.Machine.execByte b s

end Sys2Proof.Machine
end

