-- ==== Sys2Proof/Machine/HostStep.lean ====
section
/-! DEFINITION. HOST_STEP: fetching a command from RX, running it, and the parameter hold (spec/45_host_commands.md R250,
R272, spec/10_state.md R47, spec/60_exceptions.md R303). -/

namespace Sys2Proof.Machine

/-- The HOST_WAIT value after the first half of the CMDP command with the given byte (R47). -/
def waitOf (command : Byte) : HostWait :=
  if command = 0xED then .wLeds else if command = 0xF0 then .wScanset else if command = 0xF3 then .wTypematic else .none

/-- The transport consulted for a whole command: HostAvail() for its first byte, and HostRead() for the parameter byte
of a CMDP command (R250, R102; log 5, 19). -/
def State.fetchCommand (s : State) : State :=
  let first := s.awaitBytes 1
  match first.rx with
  | [] => first
  | b :: _ => first.awaitBytes (commandLength b)

/-- HOST_STEP while no parameter is awaited (R250). A CMDP command whose parameter has not come yet holds after its first
half, with PHASE at HOST (R47). -/
def hostStep (s : State) : Result :=
  let fetched := s.fetchCommand
  match decode fetched.rx with
  | .ok (i, rest) => onNext (exec i (fetched.takeRx rest)) fun s' => s'.setPhase .diag
  | .error .noByte => .next (fetched.setPhase .diag)
  | .error (.awaitsParameter b) => .next ((beginParameter (waitOf b) (fetched.takeRx [])).setPhase .host)

/-- The held HostRead() for the parameter: nothing happens until a host byte arrives, and the next one completes the
command, whatever it is (R47, R272, R303; log 18). -/
def parameterStep (s : State) : Result :=
  let asked := s.awaitBytes 1
  match asked.rx with
  | [] => .next asked
  | p :: rest => onNext (completeParameter s.hostWait p (asked.takeRx rest)) fun s' => s'.setPhase .diag

end Sys2Proof.Machine
end

