-- ==== Sys2Proof/Machine/Encoder.lean ====
section
/-! DEFINITION. The scancode ROM lookup and the key event encoder (spec/43_rom_lookup.md R210 to R214,
spec/44_encoder.md R225 to R233). -/

namespace Sys2Proof.Machine

/-- Which ROM table is read (R71). -/
inductive RomTable where
  /-- Table U, unshifted. -/
  | u
  /-- Table S, shifted. -/
  | s
  deriving DecidableEq, Repr

/-- RomRead(t, p): a word of a table; a read above 79 is a fault of the model (R71, R75). -/
def romRead (P : Config.Params) (t : RomTable) (p : Pos) : Except Fault RomWord :=
  if h : p.toNat < 80 then
    match t with
    | .u => .ok (P.romU ⟨p.toNat, h⟩)
    | .s => .ok (P.romS ⟨p.toNat, h⟩)
  else .error .romIndexOutOfRange

/-- LOOKUP(p, m): LeftShift alone selects the table; a modifier position is never looked up (R210, R211, R212). -/
def lookup (P : Config.Params) (p : Pos) (m : Mask) : Except Fault RomWord :=
  if isModifierPos P p then .error .lookupOfModifier
  else romRead P (if maskLShift m then .s else .u) p

/-- KEY_MAKE(E) (R225). -/
def keyMake (e : RomWord) : List Byte :=
  if romMapped e then (if romExt e then [Config.pfxExt] else []) ++ [romCode e] else []

/-- KEY_BREAK(E) (R226). -/
def keyBreak (e : RomWord) : List Byte :=
  if romMapped e then (if romExt e then [Config.pfxExt] else []) ++ [Config.pfxBreak, romCode e] else []

/-- The make bytes of a ROM word under a mask (R227). -/
def makeBytes (e : RomWord) (m : Mask) : List Byte :=
  (if maskCtrl m then [Config.codeCtrl] else []) ++
  (if maskRShift m then [Config.codeRShift] else []) ++
  (if romSynShift e then [Config.codeShift] else []) ++
  (if romSynAltGr e then [Config.pfxExt, Config.codeAltGr] else []) ++
  keyMake e

/-- The break bytes of a ROM word under a mask (R228). -/
def breakBytes (e : RomWord) (m : Mask) : List Byte :=
  keyBreak e ++
  (if romSynAltGr e then [Config.pfxExt, Config.pfxBreak, Config.codeAltGr] else []) ++
  (if romSynShift e then [Config.pfxBreak, Config.codeShift] else []) ++
  (if maskRShift m then [Config.pfxBreak, Config.codeRShift] else []) ++
  (if maskCtrl m then [Config.pfxBreak, Config.codeCtrl] else [])

/-- The bytes of a looked-up word. -/
def withWord (w : Except Fault RomWord) (f : RomWord → List Byte) : Except Fault (List Byte) :=
  match w with
  | .ok e => .ok (f e)
  | .error r => .error r

/-- MAKE_SEQ(p, m) (R227). -/
def makeSeq (P : Config.Params) (p : Pos) (m : Mask) : Except Fault (List Byte) :=
  withWord (lookup P p m) fun e => makeBytes e m

/-- BREAK_SEQ(p, m) (R228). -/
def breakSeq (P : Config.Params) (p : Pos) (m : Mask) : Except Fault (List Byte) :=
  withWord (lookup P p m) fun e => breakBytes e m

/-- REPEAT_SEQ(p, m) (R229). -/
def repeatSeq (P : Config.Params) (p : Pos) (m : Mask) : Except Fault (List Byte) :=
  withWord (lookup P p m) keyMake

end Sys2Proof.Machine
end

