-- ==== Sys2Proof/Machine/Led.lean ====
section
/-! DEFINITION. The LED indicator's blink window and the LED step (spec/46_led.md R290 to R292). -/

namespace Sys2Proof.Machine

/-- LedRequest(T): taken once the cooldown has passed, dropped before (R290). -/
def ledRequest (P : Config.Params) (t : Time) (s : State) : State :=
  if timeReached t s.ledNextDl then
    { s with
      ledOn := true
      ledOffDl := timeAdd t P.ledOnMs
      ledNextDl := timeAdd t P.ledCooldownMs
      trace := s.trace ++ [.ledN false] }
  else s

/-- LedDecay(T): the LED goes off once its off-deadline has passed (R291). -/
def ledDecay (t : Time) (s : State) : State :=
  if s.ledOn && timeReached t s.ledOffDl then { s with ledOn := false, trace := s.trace ++ [.ledN true] } else s

/-- The LED step: one clock read, the decay check, and the end of the poll (R140, R141). -/
def ledStep (s : State) : Result :=
  .next ((ledDecay s.readClock.now s.readClock).setPhase .kbd)

end Sys2Proof.Machine
end

