-- ==== Sys2Proof/Machine/Keyboard.lean ====
section
/-! DEFINITION. The debounce/typematic state machine: KBD_STEP and its arms (spec/42_debounce_typematic.md R180 to R190). -/

namespace Sys2Proof.Machine

/-- A position a tracking register may hold while a key is tracked: 0 to 79 and no modifier (R48(b), (c), (d)). -/
def keyTracked (P : Config.Params) (p : Pos) : Bool := decide (p.toNat < 80) && !isModifierPos P p

/-- (a) to (d) of R48. For the unused KS nothing is asked: KBD_STEP faults on it by its own name. -/
def State.tracking (P : Config.Params) (s : State) : Bool :=
  match s.ks with
  | .idle => s.candPos == Config.noKey && s.pressedPos == Config.noKey
  | .cand => keyTracked P s.candPos && s.pressedPos == Config.noKey
  | .pressed => keyTracked P s.pressedPos && s.candPos == Config.noKey
  | .unused => true

/-- Go on with the bytes of a sequence, or with the fault of its lookup. -/
def withBytes (bs : Except Fault (List Byte)) (f : List Byte → State) : Result :=
  match bs with
  | .ok bs => .next (f bs)
  | .error r => .fault r

/-- IDLE_ARM (R181). -/
def idleArm (P : Config.Params) (t : Time) (s : State) : Result :=
  if scanKey P s = Config.noKey then .next (afterScan P s)
  else .next { afterScan P s with
    candPos := scanKey P s
    debDeadline := timeAdd t P.debounceMs
    ks := .cand }

/-- The confirmed press, after its scan and with its make bytes (R183). -/
def confirmPress (P : Config.Params) (t : Time) (p : Pos) (m : Mask) (bs : List Byte) (s : State) : State :=
  let pressed : State := { s with pressedPos := p, modsSnap := m, candPos := Config.noKey, ks := .pressed }
  let lit := ledRequest P t (pressed.emit bs)
  { lit with tmDeadline := timeAdd t (P.delayMs lit.cfgDelayIdx) }

/-- REJECT (R184). -/
def rejectCandidate (s : State) : State := { s with candPos := Config.noKey, ks := .idle }

/-- CONFIRM_ARM: the re-scan confirms the candidate or drops it (R183, R184). -/
def confirmArm (P : Config.Params) (t : Time) (s : State) : Result :=
  if scanKey P s = s.candPos then
    withBytes (makeSeq P (scanKey P s) (scanMask P s)) fun bs =>
      confirmPress P t (scanKey P s) (scanMask P s) bs (afterScan P s)
  else .next (rejectCandidate (afterScan P s))

/-- The mask a policy selects: the current scan's, or the snapshot (R230). -/
def policyMask (pol : Config.ModsPolicy) (live snap : Mask) : Mask :=
  match pol with
  | .live => live
  | .snap => snap

/-- The release, after its scan and with its break bytes (R185). -/
def releaseKey (P : Config.Params) (t : Time) (bs : List Byte) (s : State) : State :=
  { ledRequest P t (s.emit bs) with pressedPos := Config.noKey, ks := .idle }

/-- REPEAT, with its bytes (R186). -/
def repeatKey (P : Config.Params) (t : Time) (bs : List Byte) (s : State) : State :=
  { s.emit bs with tmDeadline := timeAdd t (P.repeatMs s.cfgRepeatIdx) }

/-- PRESSED_ARM: a release, a due repeat, or nothing (R185, R186, R187). -/
def pressedArm (P : Config.Params) (pol : Config.Policies) (t : Time) (s : State) : Result :=
  if scanKey P s = Config.noKey then
    withBytes (breakSeq P s.pressedPos (policyMask pol.breakMods (scanMask P s) s.modsSnap)) fun bs =>
      releaseKey P t bs (afterScan P s)
  else if timeReached t s.tmDeadline then
    withBytes (repeatSeq P s.pressedPos (policyMask pol.repeatMods (scanMask P s) s.modsSnap)) fun bs =>
      repeatKey P t bs (afterScan P s)
  else .next (afterScan P s)

/-- KBD_STEP's dispatch on KS, at the clock value T_kbd (R180). -/
def kbdArms (P : Config.Params) (pol : Config.Policies) (t : Time) (s : State) : Result :=
  match s.ks with
  | .idle => idleArm P t s
  | .cand => if timeReached t s.debDeadline then confirmArm P t s else .next s
  | .pressed => pressedArm P pol t s
  | .unused => .fault .keyStateUnused

/-- KBD_STEP: the assertion of R48, one clock read, the arm of KS, and on to the host step (R140, R141, R180; log 15). -/
def kbdStep (P : Config.Params) (pol : Config.Policies) (s : State) : Result :=
  if s.tracking P then
    onNext (kbdArms P pol s.readClock.now s.readClock) fun s' => s'.setPhase .host
  else .fault .trackingBroken

end Sys2Proof.Machine
end

