-- ==== Sys2Proof/Machine/Sequencer.lean ====
section
/-! DEFINITION. The poll sequencer (spec/40_control_loop.md R140 to R146) and the placing of a command on RX. -/

namespace Sys2Proof.Machine

/-- The sub-step that PHASE names, at given OPEN parameters and the decided policies (R140). -/
def phaseStep (P : Config.Params) (s : State) : Result :=
  match s.phase with
  | .kbd => kbdStep P Config.policies s
  | .host => hostStep s
  | .diag => diagStep Config.policies.diagPresent s
  | .led => ledStep s

/-- One sub-step of a block whose parameters are admitted (R14, R140). While a parameter is awaited no other step runs
(R47; log 18). -/
def subStep (P : Config.Params) (s : State) : Result :=
  match s.hostWait with
  | .none => phaseStep P s
  | _ => parameterStep s

/-- One sub-step of the block with the parameters `P`. An instance that breaks the constraints of R8 is refused as a whole
(R9). -/
def stepWith (P : Config.Params) (s : State) : Result :=
  if P.admitted then subStep P s else .refused .parametersNotAdmitted

/-- POLL(): one iteration of the loop from PHASE = KBD, cut short when a parameter read holds, or refused with
its instance (R140, R144, R9). -/
def pollWith (P : Config.Params) (s : State) : Result :=
  andThen (stepWith P s) fun k =>
    andThen (stepWith P k) fun h =>
      if h.hostWait = .none then andThen (stepWith P h) (stepWith P) else .next h

/-- A command's bytes at the head of RX and the host step about to read them (R250; log 6). -/
def State.offerCommand (s : State) (bs : List Byte) : State :=
  { s with rx := bs ++ s.rx, phase := .host, hostWait := .none }

end Sys2Proof.Machine
end

