-- ==== Sys2Proof/Machine/Step.lean ====
section
/-! DEFINITION. The machine's step: one sub-step of the poll loop at the machine's parameters (spec/40_control_loop.md R140,
spec/00_scope.md R14). -/

namespace Sys2Proof.Machine

/-- One step of the machine, whose instance is admitted (R9; `Config.params_admitted`, log 7). -/
def step (s : State) : Host.Outcome State Fault Refusal := subStep Config.params s

/-- The state with a command's bytes where the very next step takes them: at the head of RX, with the host step about to
run and no parameter awaited (log 6). -/
def State.withFetchWord (s : State) (nbits w : Nat) : State := s.offerCommand (tableWordBytes nbits w)

end Sys2Proof.Machine
end

