-- ==== Sys2Proof/Safety.lean ====
section
/-! DEFINITION. What claims about the machine are stated in: runs, the invariant, the observation, the fragments of a key
sequence, and what a held key or a pressed key means. -/

namespace Sys2Proof.Machine

/-! ## Runs and the invariant -/

/-- `t` comes from `s` by some number of steps at the parameters `P`. -/
inductive Steps (P : Config.Params) (s : State) : State → Prop where
  | refl : Steps P s s
  | tail {t u : State} : Steps P s t → stepWith P t = .next u → Steps P s u

/-- The bytes on TX according to the observation (R145). -/
def sentBytes : List PortEvent → List Byte
  | [] => []
  | .tx b :: es => b :: sentBytes es
  | _ :: es => sentBytes es

/-- The observation without the LED's part (R46). -/
def withoutLed (es : List PortEvent) : List PortEvent := es.filter fun e =>
  match e with
  | .ledN _ => false
  | _ => true

/-- The invariant of R48: KS is a used value, (a) to (d) hold, COL_SEL is idle between steps ((e), R167), an awaited
parameter means PHASE = HOST (R31, R47), and no diagnostic command is under way (DIAG_PRESENT is false). -/
structure State.Inv (P : Config.Params) (s : State) : Prop where
  keyState : s.ks ≠ .unused
  tracking : s.tracking P = true
  columns : s.colSel = Config.colIdle
  waiting : s.hostWait ≠ .none → s.phase = .host
  diagnostic : s.diagMode = .ready

/-! ## Scans -/

/-- The key at column `c` and row `r` is a modifier (R77). -/
def isModifierKey (P : Config.Params) (c : Fin 10) (r : Fin 8) : Prop :=
  (⟨c, r⟩ : Config.KeyAt) = P.posCtrl ∨ (⟨c, r⟩ : Config.KeyAt) = P.posLShift ∨ (⟨c, r⟩ : Config.KeyAt) = P.posRShift

/-- The samples show the non-modifier key at column `c` and row `r` pressed (R43, R164). -/
def keyShown (P : Config.Params) (samples : List Sample) (c : Fin 10) (r : Fin 8) : Prop :=
  (∃ rows : Byte, (c, rows) ∈ samples ∧ rows.getLsbD r.val = false) ∧ ¬ isModifierKey P c r

/-- The samples show a modifier key pressed (R164). -/
def modifierShown (samples : List Sample) (k : Config.KeyAt) : Prop :=
  ∃ rows : Byte, (k.col, rows) ∈ samples ∧ rows.getLsbD k.row.val = false

/-! ## Fragments of a key sequence (R108) -/

/-- One fragment of a key sequence. -/
inductive Fragment where
  | ctrl
  | rshift
  | synShift
  | synAltGr
  | key (ext : Bool) (code : Byte)
  deriving DecidableEq, Repr

/-- A fragment's make form (R108). -/
def Fragment.make : Fragment → List Byte
  | .ctrl => [Config.codeCtrl]
  | .rshift => [Config.codeRShift]
  | .synShift => [Config.codeShift]
  | .synAltGr => [Config.pfxExt, Config.codeAltGr]
  | .key true code => [Config.pfxExt, code]
  | .key false code => [code]

/-- A fragment's break form (R108). -/
def Fragment.brk : Fragment → List Byte
  | .ctrl => [Config.pfxBreak, Config.codeCtrl]
  | .rshift => [Config.pfxBreak, Config.codeRShift]
  | .synShift => [Config.pfxBreak, Config.codeShift]
  | .synAltGr => [Config.pfxExt, Config.pfxBreak, Config.codeAltGr]
  | .key true code => [Config.pfxExt, Config.pfxBreak, code]
  | .key false code => [Config.pfxBreak, code]

/-- The fragments of the make sequence of a mapped word under a mask, in order (R227). -/
def makeFragments (e : RomWord) (m : Mask) : List Fragment :=
  (if m.getLsbD 0 then [.ctrl] else []) ++ (if m.getLsbD 2 then [.rshift] else []) ++
  (if e.getLsbD 9 then [.synShift] else []) ++ (if e.getLsbD 10 then [.synAltGr] else []) ++
  [.key (e.getLsbD 8) (e.extractLsb' 0 8)]

/-! ## Ready states -/

/-- The keyboard step is the next to run. -/
def State.atKeyboard (s : State) : Prop := s.phase = .kbd ∧ s.hostWait = .none

/-- The host step is the next to run, and no parameter is awaited. -/
def State.atHost (s : State) : Prop := s.phase = .host ∧ s.hostWait = .none

/-- T_kbd of the keyboard step about to run (R14, R141). -/
def State.tKbd (s : State) : Time := s.readClock.now

/-- The position the scan of the keyboard step about to run reports. -/
def State.kbdKey (P : Config.Params) (s : State) : Pos := scanKey P s.readClock

/-- The mask the scan of the keyboard step about to run reports. -/
def State.kbdMask (P : Config.Params) (s : State) : Mask := scanMask P s.readClock

/-- The state after the clock read and the scan of the keyboard step about to run. -/
def State.scanned (P : Config.Params) (s : State) : State := afterScan P s.readClock

end Sys2Proof.Machine
end

