-- ==== Sys2Proof/Certificates/Slice0/Obligations.lean ====
section
/-! DEFINITION. The statements for the provers. Numbers R<n> are rules of spec/, D<n> entries of
spec/92_eei_decisions.md. The block has no data memory (R70), so "memory unchanged" has no content here; the streams TX and
RX, which stand in its place, are fields of every equation. A statement that writes its next state as an update of `s` says
with it that every other field keeps its value. -/

open Sys2Proof Sys2Proof.Machine

/-! ## Encoding (R100 to R111) -/

/-- Decoding an encoded well-formed command gives it back, with every parameter value and whatever follows (R100, R111). -/
def Obligations.DecodeEncodeAgree : Prop :=
  ∀ (i : Instr) (rest : List Byte), i.wellFormed = true → decode (encode i ++ rest) = .ok (i, rest)

/-- What the decoder reads is well-formed, and its encoding is exactly the bytes taken (R101, R102, R111). -/
def Obligations.DecodeTakesExactlyTheEncoding : Prop :=
  ∀ (bs rest : List Byte) (i : Instr), decode bs = .ok (i, rest) → i.wellFormed = true ∧ bs = encode i ++ rest

/-- The length of a command follows from its command byte alone, and a CMDP command takes the next byte whatever its value
(R102). -/
def Obligations.LengthFollowsFromCommandByte : Prop :=
  ∀ (b : Byte) (rest : List Byte),
    ((b = 0xED ∨ b = 0xF0 ∨ b = 0xF3) →
      decode [b] = .error (.awaitsParameter b) ∧
      ∀ p : Byte, ∃ i, decode (b :: p :: rest) = .ok (i, rest) ∧ encode i = [b, p]) ∧
    (¬ (b = 0xED ∨ b = 0xF0 ∨ b = 0xF3) → ∃ i, decode (b :: rest) = .ok (i, rest) ∧ encode i = [b])

/-- The words of the opcode map, written out from its table (R111; the byte values are the spec's own, D5). -/
def Obligations.OpcodeMapWords : Prop :=
  ∀ (p : Byte) (rest : List Byte),
    decode (0xED :: p :: rest) = .ok (.setleds p, rest) ∧
    decode (0xF0 :: p :: rest) = .ok (.scanset p, rest) ∧
    decode (0xF3 :: p :: rest) =
      .ok (.typematic (p.extractLsb' 7 1) (p.extractLsb' 5 2) (p.extractLsb' 0 5), rest) ∧
    decode (0xF2 :: rest) = .ok (.readid, rest) ∧
    decode (0xF6 :: rest) = .ok (.setdefault, rest) ∧
    decode (0xFB :: rest) = .ok (.keytypem, rest) ∧
    decode (0xFF :: rest) = .ok (.reset, rest) ∧
    decode (0xF1 :: rest) = .ok (.byte 0xF1, rest)

/-! ## What each host command does (R251 to R271) -/

/-- SETLEDS: ACK, the parameter discarded, ACK; no register keeps the LED state (R251, R252). -/
def Obligations.SetLedsRepliesTwice : Prop :=
  ∀ (p : Byte) (s : State),
    exec (.setleds p) s = .next { s with
      tx := s.tx ++ [0xFA, 0xFA]
      trace := s.trace ++ [.replyWait, .tx 0xFA, .replyWait, .tx 0xFA]
      hostWait := .none }

/-- ECHO: one Echo byte, no ACK (R253; the command byte and the Echo byte are the spec's own, D5, D6). -/
def Obligations.EchoReplies : Prop :=
  ∀ (s : State) (rest : List Byte),
    decode (0xEE :: rest) = .ok (.echo, rest) ∧
    exec .echo s = .next { s with tx := s.tx ++ [0xEE], trace := s.trace ++ [.replyWait, .tx 0xEE] }

/-- SCANSET: two ACKs, and the set-2 indicator for the query only (R254, R255; its value is the spec's own, D7). -/
def Obligations.ScanSetReplies : Prop :=
  ∀ (p : Byte) (s : State),
    (p = 0 → exec (.scanset p) s = .next { s with
      tx := s.tx ++ [0xFA, 0xFA, 0x02]
      trace := s.trace ++ [.replyWait, .tx 0xFA, .replyWait, .tx 0xFA, .replyWait, .tx 0x02]
      hostWait := .none }) ∧
    (p ≠ 0 → exec (.scanset p) s = .next { s with
      tx := s.tx ++ [0xFA, 0xFA]
      trace := s.trace ++ [.replyWait, .tx 0xFA, .replyWait, .tx 0xFA]
      hostWait := .none })

/-- READID: exactly two bytes, both 0xAB, no ACK (R256). -/
def Obligations.ReadIdRepliesTwice : Prop :=
  ∀ (s : State) (rest : List Byte),
    decode (0xF2 :: rest) = .ok (.readid, rest) ∧
    exec .readid s = .next { s with
      tx := s.tx ++ [0xAB, 0xAB]
      trace := s.trace ++ [.replyWait, .tx 0xAB, .replyWait, .tx 0xAB] }

/-- TYPEMATIC: one ACK, and both configuration fields from the parameter; an armed TM_DEADLINE is kept. Bit 7 has no
effect: the machine's F3_BIT7 is IGNORE, the spec's own decision D15 (log 8). -/
def Obligations.TypematicConfigures : Prop :=
  ∀ (rsvd : BitVec 1) (delay : BitVec 2) (rate : BitVec 5) (s : State),
    exec (.typematic rsvd delay rate) s = .next { s with
      tx := s.tx ++ [0xFA]
      trace := s.trace ++ [.replyWait, .tx 0xFA]
      cfgDelayIdx := delay
      cfgRepeatIdx := rate
      hostWait := .none }

/-- Under F3_BIT7 = UNSPECIFIED the completion refuses exactly the parameters with bit 7 set; under IGNORE none, and
it then writes P[6:5] and P[4:0] and ends the wait (R258; the refusal is "if F3_BIT7 == UNSPECIFIED and p[7] == 1: refuse",
log 26). -/
def Obligations.TypematicBit7Policy : Prop :=
  ∀ (p : Byte) (s : State),
    (p.getLsbD 7 = true →
      completeTypematic .unspecified (paramRsvd p) (paramDelay p) (paramRate p) s = .refused .typematicBit7) ∧
    (p.getLsbD 7 = false →
      completeTypematic .unspecified (paramRsvd p) (paramDelay p) (paramRate p) s =
        .next { s with cfgDelayIdx := p.extractLsb' 5 2, cfgRepeatIdx := p.extractLsb' 0 5, hostWait := .none }) ∧
    completeTypematic .ignoreBit (paramRsvd p) (paramDelay p) (paramRate p) s =
      .next { s with cfgDelayIdx := p.extractLsb' 5 2, cfgRepeatIdx := p.extractLsb' 0 5, hostWait := .none }

/-- ENABLE and DISABLE: one ACK and nothing else; there is no enable flag (R259, R260). -/
def Obligations.EnableAndDisableOnlyAck : Prop :=
  ∀ (s : State) (rest : List Byte),
    decode (0xF4 :: rest) = .ok (.enable, rest) ∧
    decode (0xF5 :: rest) = .ok (.disable, rest) ∧
    exec .enable s = .next { s with tx := s.tx ++ [0xFA], trace := s.trace ++ [.replyWait, .tx 0xFA] } ∧
    exec .disable s = .next { s with tx := s.tx ++ [0xFA], trace := s.trace ++ [.replyWait, .tx 0xFA] }

/-- DEFAULT: the configuration becomes (1, 11), no reply; an armed TM_DEADLINE is kept (R261). -/
def Obligations.DefaultRestoresConfiguration : Prop :=
  ∀ (s : State) (rest : List Byte),
    decode (0xF6 :: rest) = .ok (.setdefault, rest) ∧
    exec .setdefault s = .next { s with cfgDelayIdx := 1, cfgRepeatIdx := 11 }

/-- The seven variant commands and RESEND: no reply, no state, no parameter, nothing retransmitted (R262 to R269). -/
def Obligations.RecognisedSilentCommands : Prop :=
  ∀ (s : State) (rest : List Byte),
    (decode (0xF7 :: rest) = .ok (.alltypem, rest) ∧ exec .alltypem s = .next s) ∧
    (decode (0xF8 :: rest) = .ok (.allmb, rest) ∧ exec .allmb s = .next s) ∧
    (decode (0xF9 :: rest) = .ok (.allmake, rest) ∧ exec .allmake s = .next s) ∧
    (decode (0xFA :: rest) = .ok (.alltmb, rest) ∧ exec .alltmb s = .next s) ∧
    (decode (0xFB :: rest) = .ok (.keytypem, rest) ∧ exec .keytypem s = .next s) ∧
    (decode (0xFC :: rest) = .ok (.keymb, rest) ∧ exec .keymb s = .next s) ∧
    (decode (0xFD :: rest) = .ok (.keymake, rest) ∧ exec .keymake s = .next s) ∧
    (decode (0xFE :: rest) = .ok (.resend, rest) ∧ exec .resend s = .next s)

/-- RESET: ACK, then after the longer wait BAT_OK, and no register changes (R270). -/
def Obligations.ResetCommandOnlyReplies : Prop :=
  ∀ (s : State) (rest : List Byte),
    decode (0xFF :: rest) = .ok (.reset, rest) ∧
    exec .reset s = .next { s with
      tx := s.tx ++ [0xFA, 0xAA]
      trace := s.trace ++ [.replyWait, .tx 0xFA, .resetWait, .tx 0xAA] }

/-- Every byte outside the opcode map is silently ignored: no reply, no state, no parameter read (R271). -/
def Obligations.UnrecognisedByteIgnored : Prop :=
  ∀ (b : Byte) (s : State) (rest : List Byte),
    b ∉ ([0xED, 0xEE, 0xF0, 0xF2, 0xF3, 0xF4, 0xF5, 0xF6, 0xF7, 0xF8, 0xF9, 0xFA, 0xFB, 0xFC, 0xFD, 0xFE, 0xFF] : List Byte) →
    decode (b :: rest) = .ok (.byte b, rest) ∧ exec (.byte b) s = .next s

/-! ## The host step and the parameter hold (R47, R143, R144, R250, R303) -/

/-- A step runs the decoded instruction: with no parameter awaited, the host step fetches a command (its bytes on RX, or those
the host sends as the transport is consulted), takes its bytes, runs exec, and PHASE goes on to DIAG (R140, R250). A whole
command on RX is fetched without asking the host. When the host is asked is the model's choice (log 5). -/
def Obligations.StepRunsDecodedInstruction : Prop :=
  ∀ (s : State) (i : Instr) (rest : List Byte), s.atHost →
    (decode s.rx = .ok (i, rest) → s.fetchCommand = s) ∧
    (decode s.fetchCommand.rx = .ok (i, rest) →
      step s = onNext (exec i { s.fetchCommand with rx := rest }) fun t => { t with phase := .diag })

/-- With RX empty and nothing offered by the host, the host step changes nothing but PHASE and the host agent's own
answers (R250). -/
def Obligations.HostStepWithoutByte : Prop :=
  ∀ s : State, s.atHost → s.rx = [] → s.nextOffer = none →
    step s = .next { s.askHost with phase := .diag } ∧ s.askHost.rx = [] ∧ s.askHost.tx = s.tx

/-- One host step takes the bytes of at most one command off RX, and further bytes wait (R143). The first byte may be one the
host sends in this step (log 5). -/
def Obligations.HostStepTakesOneCommand : Prop :=
  ∀ (s t : State) (b : Byte) (more : List Byte), s.atHost → (s.awaitBytes 1).rx = b :: more → step s = .next t →
    t.rx = more.drop (commandLength b - 1)

/-- The first halves: when only the command byte has come, on RX or in this step, the block sends ACK and holds with HOST_WAIT
set (R251, R254, R257). -/
def Obligations.ParameterCommandsHold : Prop :=
  ∀ (s : State) (b : Byte) (w : HostWait),
    (b = 0xED ∧ w = .wLeds) ∨ (b = 0xF0 ∧ w = .wScanset) ∨ (b = 0xF3 ∧ w = .wTypematic) →
    s.atHost → s.fetchCommand.rx = [b] →
    step s = .next { s.fetchCommand with
      rx := []
      tx := s.tx ++ [0xFA]
      trace := s.trace ++ [.replyWait, .tx 0xFA]
      hostWait := w }

/-- The completions: whatever byte comes next, on RX or in this step, completes the held command as the awaited command's rule
says (R252, R255, R272, R47; R258 under the machine's IGNORE, D15). That the completing step moves PHASE on to DIAG is the
model's choice (log 18). -/
def Obligations.ParameterCompletesCommand : Prop :=
  ∀ (s : State) (p : Byte) (rest : List Byte),
    (s.rx = p :: rest → s.awaitBytes 1 = s) ∧
    ((s.awaitBytes 1).rx = p :: rest →
      (s.hostWait = .wLeds → step s = .next { s.awaitBytes 1 with
        rx := rest, phase := .diag, hostWait := .none, tx := s.tx ++ [0xFA]
        trace := s.trace ++ [.replyWait, .tx 0xFA] }) ∧
      (s.hostWait = .wScanset → p = 0 → step s = .next { s.awaitBytes 1 with
        rx := rest, phase := .diag, hostWait := .none, tx := s.tx ++ [0xFA, 0x02]
        trace := s.trace ++ [.replyWait, .tx 0xFA, .replyWait, .tx 0x02] }) ∧
      (s.hostWait = .wScanset → p ≠ 0 → step s = .next { s.awaitBytes 1 with
        rx := rest, phase := .diag, hostWait := .none, tx := s.tx ++ [0xFA]
        trace := s.trace ++ [.replyWait, .tx 0xFA] }) ∧
      (s.hostWait = .wTypematic → step s = .next { s.awaitBytes 1 with
        rx := rest, phase := .diag, hostWait := .none
        cfgDelayIdx := p.extractLsb' 5 2, cfgRepeatIdx := p.extractLsb' 0 5 }))

/-- While a parameter is awaited and the host offers nothing, the block stays held for any number of steps, and nothing of
it changes (R303). -/
def Obligations.HoldLastsUntilHostByte : Prop :=
  ∀ (n : Nat) (s : State) (offers : List (Option Byte)), s.hostWait ≠ .none → s.rx = [] →
    s.hostScript = List.replicate n none ++ offers →
    Host.Core.run Sys2Proof.core n s = .next { s with hostScript := offers }

/-- Only a host byte lifts the hold: a step of a held block either finds no byte and changes nothing at all but the host
agent's own answers, or takes exactly one byte and ends the wait. Either way it scans nothing, reads no clock, and touches
neither the key registers nor the LED (R47, R144). -/
def Obligations.OnlyHostByteLiftsHold : Prop :=
  ∀ (P : Config.Params) (s t : State), s.hostWait ≠ .none → stepWith P s = .next t →
    ((s.rx = [] ∧ t = { s with hostScript := t.hostScript, draws := t.draws }) ∨
      (t.hostWait = .none ∧ t.phase = .diag ∧ ∃ p, (s.awaitBytes 1).rx = p :: t.rx)) ∧
    t.clockMs = s.clockMs ∧ t.rowScript = s.rowScript ∧ t.colSel = s.colSel ∧
    t.ks = s.ks ∧ t.candPos = s.candPos ∧ t.pressedPos = s.pressedPos ∧ t.debDeadline = s.debDeadline ∧
    t.tmDeadline = s.tmDeadline ∧ t.modsLive = s.modsLive ∧ t.modsSnap = s.modsSnap ∧
    t.ledOn = s.ledOn ∧ t.ledOffDl = s.ledOffDl ∧ t.ledNextDl = s.ledNextDl

/-- A CMDP command whose parameter comes late ends in the state it would have ended in had both bytes been there, but for
the host agent's own answers (R251 to R258, R272). -/
def Obligations.LateParameterEqualsWholeCommand : Prop :=
  ∀ (s : State) (b p : Byte), b = 0xED ∨ b = 0xF0 ∨ b = 0xF3 → s.atHost → s.fetchCommand.rx = [b] →
    ∃ h t, step s = .next h ∧ step { h with rx := [p] } = .next t ∧
      step { s with rx := [b, p] } = .next { t with hostScript := s.hostScript, draws := s.draws }

/-- Only TYPEMATIC and DEFAULT write the typematic configuration (R40). -/
def Obligations.ConfigurationWriters : Prop :=
  ∀ (P : Config.Params) (s t : State), stepWith P s = .next t →
    (t.cfgDelayIdx ≠ s.cfgDelayIdx ∨ t.cfgRepeatIdx ≠ s.cfgRepeatIdx) →
    s.hostWait = .wTypematic ∨
    (s.atHost ∧ ∃ i rest, decode s.fetchCommand.rx = .ok (i, rest) ∧
      (i = .setdefault ∨ ∃ rsvd delay rate, i = .typematic rsvd delay rate))

/-! ## The sequencer (R31, R140, R142) -/

/-- PHASE selects the sub-step: the keyboard step, the host step, the empty diagnostic step, the LED step (R140 with
DIAG_PRESENT = false). -/
def Obligations.StepFollowsPhase : Prop :=
  ∀ s : State, s.hostWait = .none →
    (s.phase = .kbd → step s = kbdStep Config.params Config.policies s) ∧
    (s.phase = .host → step s = hostStep s) ∧
    (s.phase = .diag → step s = .next { s with phase := .led }) ∧
    (s.phase = .led → step s = .next { ledDecay s.readClock.now s.readClock with phase := .kbd })

/-- The sub-steps run in the fixed order KBD, HOST, DIAG, LED, KBD, and PHASE stays at HOST while a parameter is awaited
(R31, R140). -/
def Obligations.PhaseCycle : Prop :=
  ∀ (P : Config.Params) (s t : State), stepWith P s = .next t →
    (s.hostWait = .none → s.phase = .kbd → t.phase = .host ∧ t.hostWait = .none) ∧
    (s.atHost → (t.phase = .diag ∧ t.hostWait = .none) ∨ (t.phase = .host ∧ t.hostWait ≠ .none)) ∧
    (s.hostWait = .none → s.phase = .diag → t.phase = .led ∧ t.hostWait = .none) ∧
    (s.hostWait = .none → s.phase = .led → t.phase = .kbd ∧ t.hostWait = .none) ∧
    (s.hostWait ≠ .none → t.phase = s.phase ∧ t.hostWait = s.hostWait ∨ t.phase = .diag ∧ t.hostWait = .none)

/-- The clock agent's count never falls, and only the keyboard step and the LED step read it (R45, R141). -/
def Obligations.ClockIsMonotone : Prop :=
  ∀ (P : Config.Params) (s t : State), stepWith P s = .next t →
    s.clockMs ≤ t.clockMs ∧ (t.clockMs ≠ s.clockMs → s.hostWait = .none ∧ (s.phase = .kbd ∨ s.phase = .led))

/-! ## The matrix scanner (R160 to R168) -/

/-- SCAN reports the smallest position of the non-modifier keys its samples show pressed, or NO_KEY if they show none, and
samples all ten columns in either case (R165). -/
def Obligations.ScanReportsLowestKey : Prop :=
  ∀ (P : Config.Params) (s : State),
    let xs := samplesOf scanOrder s
    xs.map Prod.fst = [0, 1, 2, 3, 4, 5, 6, 7, 8, 9] ∧
    ((scanKey P s = 0xFF ∧ ∀ c r, ¬ keyShown P xs c r) ∨
    (∃ c r, keyShown P xs c r ∧ scanKey P s = posOf c r ∧
      ∀ c' r', keyShown P xs c' r' → (scanKey P s).toNat ≤ (posOf c' r').toNat))

/-- SCAN's mask has a modifier's bit set exactly when its samples show that modifier pressed, and MODS_LIVE takes it,
whatever it held (R166). -/
def Obligations.ScanMaskIsFresh : Prop :=
  ∀ (P : Config.Params) (s : State),
    let xs := samplesOf scanOrder s
    (afterScan P s).modsLive = scanMask P s ∧
    ((scanMask P s).getLsbD 0 = true ↔ modifierShown xs P.posCtrl) ∧
    ((scanMask P s).getLsbD 1 = true ↔ modifierShown xs P.posLShift) ∧
    ((scanMask P s).getLsbD 2 = true ↔ modifierShown xs P.posRShift)

/-- SCAN drives, settles and samples the ten columns in ascending order, once each, and then drives COL_IDLE
(R161, R162, R167, R168). -/
def Obligations.ScanDrivesTenColumns : Prop :=
  ∀ (P : Config.Params) (s : State),
    (samplesOf scanOrder s).map Prod.fst = [0, 1, 2, 3, 4, 5, 6, 7, 8, 9] ∧
    (afterScan P s).trace = s.trace ++
      ((samplesOf scanOrder s).flatMap fun x => [.colSel (BitVec.ofNat 4 x.1.val), .settleWait, .rowSample x.2]) ++
      [.colSel 0xF] ∧
    (afterScan P s).colSel = 0xF

/-- SCAN takes ten samples of the key-matrix agent and writes nothing else but COL_SEL and MODS_LIVE, whatever answers the
agent has in hand (R160). The samples are the script's next answers and then opaque draws (log 2, 4). -/
def Obligations.ScanFrame : Prop :=
  ∀ (P : Config.Params) (s : State),
    afterScan P s = { s with
      modsLive := scanMask P s
      colSel := 0xF
      trace := (afterScan P s).trace
      rowScript := s.rowScript.drop 10
      draws := s.draws + (10 - s.rowScript.length) } ∧
    (samplesOf scanOrder s).map Prod.snd = s.rowScript.take 10 ++
      (List.range (10 - s.rowScript.length)).map fun k => Config.rowDraw (s.draws + k)

/-! ## The debounce/typematic state machine (R180 to R190) -/

/-- IDLE arm: a scan that finds a key arms a candidate, one that finds none changes only what SCAN changes (R181). -/
def Obligations.IdleArmsCandidate : Prop :=
  ∀ (P : Config.Params) (pol : Config.Policies) (s : State), s.ks = .idle → s.tracking P = true →
    (s.kbdKey P = 0xFF → kbdStep P pol s = .next { s.scanned P with phase := .host }) ∧
    (s.kbdKey P ≠ 0xFF → kbdStep P pol s = .next { s.scanned P with
      candPos := s.kbdKey P
      debDeadline := s.tKbd + P.debounceMs
      ks := .cand
      phase := .host })

/-- CAND arm before the deadline: no scan, no emission, no register changed; only the clock has been read (R182). -/
def Obligations.CandidateWaits : Prop :=
  ∀ (P : Config.Params) (pol : Config.Policies) (s : State), s.ks = .cand → s.tracking P = true →
    s.tKbd.toNat < s.debDeadline.toNat → kbdStep P pol s = .next { s.readClock with phase := .host }

/-- CAND arm at or after the deadline, the re-scan equal: the press is confirmed (R183; D18). -/
def Obligations.EqualRescanConfirms : Prop :=
  ∀ (P : Config.Params) (pol : Config.Policies) (s : State), s.ks = .cand → s.tracking P = true →
    s.debDeadline.toNat ≤ s.tKbd.toNat → s.kbdKey P = s.candPos →
    ∃ bs, makeSeq P s.candPos (s.kbdMask P) = .ok bs ∧
      kbdStep P pol s = .next { ledRequest P s.tKbd ((s.scanned P).emit bs) with
        pressedPos := s.candPos
        modsSnap := s.kbdMask P
        candPos := 0xFF
        ks := .pressed
        tmDeadline := s.tKbd + P.delayMs s.cfgDelayIdx
        phase := .host }

/-- CAND arm at or after the deadline, the re-scan not equal: the candidate is dropped, nothing is sent, the LED is not asked
for, and the re-scan's key is not armed (R184; D23). -/
def Obligations.UnequalRescanRejects : Prop :=
  ∀ (P : Config.Params) (pol : Config.Policies) (s : State), s.ks = .cand → s.tracking P = true →
    s.debDeadline.toNat ≤ s.tKbd.toNat → s.kbdKey P ≠ s.candPos →
    kbdStep P pol s = .next { s.scanned P with candPos := 0xFF, ks := .idle, phase := .host }

/-- PRESSED arm, no key: the break is sent and KS returns to IDLE, even when a repeat is due (R185; D20). -/
def Obligations.NoKeyReleases : Prop :=
  ∀ (P : Config.Params) (pol : Config.Policies) (s : State), s.ks = .pressed → s.tracking P = true →
    s.kbdKey P = 0xFF →
    ∃ bs, breakSeq P s.pressedPos (match pol.breakMods with | .snap => s.modsSnap | .live => s.kbdMask P) = .ok bs ∧
      kbdStep P pol s = .next { ledRequest P s.tKbd ((s.scanned P).emit bs) with
        pressedPos := 0xFF
        ks := .idle
        phase := .host }

/-- PRESSED arm, any key and the typematic deadline passed: one repeat of PRESSED_POS, re-armed from T_kbd, and no LED
request (R186; D19, D21, D22). -/
def Obligations.DueRepeatIsSent : Prop :=
  ∀ (P : Config.Params) (pol : Config.Policies) (s : State), s.ks = .pressed → s.tracking P = true →
    s.kbdKey P ≠ 0xFF → s.tmDeadline.toNat ≤ s.tKbd.toNat →
    ∃ bs, repeatSeq P s.pressedPos (match pol.repeatMods with | .live => s.kbdMask P | .snap => s.modsSnap) = .ok bs ∧
      kbdStep P pol s = .next { (s.scanned P).emit bs with
        tmDeadline := s.tKbd + P.repeatMs s.cfgRepeatIdx
        phase := .host }

/-- PRESSED arm, any key and the deadline not passed: nothing but what SCAN changes (R187). -/
def Obligations.HeldKeyBeforeDeadline : Prop :=
  ∀ (P : Config.Params) (pol : Config.Policies) (s : State), s.ks = .pressed → s.tracking P = true →
    s.kbdKey P ≠ 0xFF → s.tKbd.toNat < s.tmDeadline.toNat →
    kbdStep P pol s = .next { s.scanned P with phase := .host }

/-- The model faults on KS = 3 and on a broken (a) to (d) of R48, and then only (R32, R48). -/
def Obligations.KeyboardStepFaults : Prop :=
  ∀ (P : Config.Params) (pol : Config.Policies) (s : State),
    (s.tracking P = false → kbdStep P pol s = .fault .trackingBroken) ∧
    (s.ks = .unused → kbdStep P pol s = .fault .keyStateUnused) ∧
    (s.tracking P = true → s.ks ≠ .unused → ∃ t, kbdStep P pol s = .next t)

/-- Debounce law (R188): from a state that tracks no key, a key is confirmed only after two scans that report exactly its
position, the second at a clock value at or past the first's plus DEBOUNCE_MS in the block's own time arithmetic. -/
def Obligations.DebounceLaw : Prop :=
  ∀ (P : Config.Params) (s t : State), s.ks = .idle → Steps P s t → t.ks = .pressed →
    ∃ a b, Steps P s a ∧ a.atKeyboard ∧ a.ks = .idle ∧ a.kbdKey P = t.pressedPos ∧
      Steps P a b ∧ b.atKeyboard ∧ b.ks = .cand ∧ b.kbdKey P = t.pressedPos ∧
      (a.tKbd + P.debounceMs).toNat ≤ b.tKbd.toNat ∧ Steps P b t

/-- Typematic law (R189): with the keyboard arm run at every millisecond after a confirmation at t0, a key reported by every
scan, and the delay D and repeat interval R configured, the confirmation sends the make, and the arm sends the key's own make
bytes at exactly t0+D, t0+D+R, t0+D+2R, …, and nothing at any other time. Between two runs of the arm anything may happen that
leaves KS, PRESSED_POS and TM_DEADLINE alone. The rule's D and R are taken to be above 0 and the run not to wrap the clock. -/
def Obligations.TypematicLaw : Prop :=
  ∀ (P : Config.Params) (pol : Config.Policies) (t0 D R n : Nat) (c : State) (before after : Nat → State),
    0 < D → 0 < R → t0 + n + D + R < 2 ^ 32 →
    c.ks = .cand → (P.delayMs c.cfgDelayIdx).toNat = D →
    kbdArms P pol (BitVec.ofNat 32 t0) c = .next (after 0) → (after 0).ks = .pressed →
    (∀ k < n,
      (before k).ks = (after k).ks ∧ (before k).pressedPos = (after k).pressedPos ∧
      (before k).tmDeadline = (after k).tmDeadline ∧
      (P.repeatMs (before k).cfgRepeatIdx).toNat = R ∧ scanKey P (before k) ≠ 0xFF ∧
      kbdArms P pol (BitVec.ofNat 32 (t0 + k + 1)) (before k) = .next (after (k + 1))) →
    (∃ bs, makeSeq P c.candPos (scanMask P c) = .ok bs ∧ (after 0).tx = c.tx ++ bs) ∧
    ∀ k < n, (after (k + 1)).ks = .pressed ∧ (after (k + 1)).pressedPos = c.candPos ∧
      ((∃ j, k + 1 = D + j * R) →
        ∃ bs, repeatSeq P c.candPos (policyMask pol.repeatMods (scanMask P (before k)) (before k).modsSnap) = .ok bs ∧
          (after (k + 1)).tx = (before k).tx ++ bs) ∧
      ((¬ ∃ j, k + 1 = D + j * R) → (after (k + 1)).tx = (before k).tx)

/-- Rollover (R190): a pressed key's position and snapshot stay as they are until a scan reports no key, whatever other key
the scans report. -/
def Obligations.PressedKeyStaysUntilNoKey : Prop :=
  ∀ (P : Config.Params) (s t : State), s.ks = .pressed → stepWith P s = .next t →
    (t.ks = .pressed ∧ t.pressedPos = s.pressedPos ∧ t.modsSnap = s.modsSnap ∧ t.candPos = s.candPos) ∨
    (s.atKeyboard ∧ s.kbdKey P = 0xFF ∧ t.ks = .idle ∧ t.pressedPos = 0xFF)

/-- Wrap-around exposure (R354): a deadline armed now is met at once exactly when the delay is 0 or the sum wraps, and a
deadline of 2^32 - 1 is met only by a read of 2^32 - 1. -/
def Obligations.DeadlineWrapExposure : Prop :=
  ∀ now d : Time,
    (timeReached now (timeAdd now d) = true ↔ d = 0 ∨ 2 ^ 32 ≤ now.toNat + d.toNat) ∧
    (timeReached now 0xFFFFFFFF = true ↔ now = 0xFFFFFFFF)

/-! ## Lookup and encoder (R210 to R233) -/

/-- LeftShift alone selects the table; a position above 79 or a modifier's faults (R210, R211, R75). That
the two faults have two names, and that a modifier position is looked for first, is the model's (log 17). -/
def Obligations.LookupSelectsTable : Prop :=
  ∀ (P : Config.Params) (p : Pos) (m : Mask),
    (∀ h : p.toNat < 80, isModifierPos P p = false →
      lookup P p m = .ok (if m.getLsbD 1 then P.romS ⟨p.toNat, h⟩ else P.romU ⟨p.toNat, h⟩)) ∧
    (isModifierPos P p = true → lookup P p m = .error .lookupOfModifier) ∧
    (isModifierPos P p = false → 80 ≤ p.toNat → lookup P p m = .error .romIndexOutOfRange)

/-- The three sequences of a looked-up word, fragment by fragment (R225 to R229; the codes of Ctrl, RightShift and Shift are
the spec's own, D8). For an unmapped word, e = 0, only the Ctrl
and RightShift bytes are left (R231). -/
def Obligations.EncoderSequences : Prop :=
  ∀ (P : Config.Params) (p : Pos) (m : Mask) (e : RomWord), lookup P p m = .ok e →
    let ext : List Byte := if e.getLsbD 8 then [0xE0] else []
    let code : Byte := e.extractLsb' 0 8
    makeSeq P p m = .ok (
      (if m.getLsbD 0 then [0x14] else []) ++ (if m.getLsbD 2 then [0x59] else []) ++
      (if e.getLsbD 9 then [0x12] else []) ++ (if e.getLsbD 10 then [0xE0, 0x11] else []) ++
      (if e ≠ 0 then ext ++ [code] else [])) ∧
    breakSeq P p m = .ok (
      (if e ≠ 0 then ext ++ [0xF0, code] else []) ++
      (if e.getLsbD 10 then [0xE0, 0xF0, 0x11] else []) ++ (if e.getLsbD 9 then [0xF0, 0x12] else []) ++
      (if m.getLsbD 2 then [0xF0, 0x59] else []) ++ (if m.getLsbD 0 then [0xF0, 0x14] else [])) ∧
    repeatSeq P p m = .ok (if e ≠ 0 then ext ++ [code] else [])

/-- Mirror law (R232) for the pairs the block emits: whatever run led to a pressed key from a state that tracked none, some
confirmation of the run sent the make sequence of its mapped word under MODS_SNAP, and a release sends that sequence's
fragments in reverse order, each in its break form. It rests on BREAK_MODS = SNAP, the spec's own decision D20 (log 8). -/
def Obligations.BreakMirrorsMake : Prop :=
  ∀ (P : Config.Params) (s r : State), s.ks = .idle → Steps P s r → r.ks = .pressed →
    ∃ a b e, Steps P s a ∧ stepWith P a = .next b ∧ Steps P b r ∧ a.ks = .cand ∧ b.ks = .pressed ∧
      lookup P r.pressedPos r.modsSnap = .ok e ∧
      (e ≠ 0 →
        b.tx = a.tx ++ (makeFragments e r.modsSnap).flatMap Fragment.make ∧
        ∀ t, stepWith P r = .next t → t.ks = .idle →
          t.tx = r.tx ++ (makeFragments e r.modsSnap).reverse.flatMap Fragment.brk)

/-! ## The LED indicator (R290 to R292) -/

/-- LedRequest and LedDecay (R290, R291). -/
def Obligations.LedBlinkWindow : Prop :=
  ∀ (P : Config.Params) (t : Time) (s : State),
    (s.ledNextDl.toNat ≤ t.toNat → ledRequest P t s = { s with
      ledOn := true
      ledOffDl := t + P.ledOnMs
      ledNextDl := t + P.ledCooldownMs
      trace := s.trace ++ [.ledN false] }) ∧
    (t.toNat < s.ledNextDl.toNat → ledRequest P t s = s) ∧
    (s.ledOn = true → s.ledOffDl.toNat ≤ t.toNat →
      ledDecay t s = { s with ledOn := false, trace := s.trace ++ [.ledN true] }) ∧
    (s.ledOn = false ∨ t.toNat < s.ledOffDl.toNat → ledDecay t s = s)

/-- Only a confirmation and a release ask for a blink: no repeat, rejection or host command lights the LED or writes a LED
deadline (R292). -/
def Obligations.LedRequestedOnlyOnPressAndRelease : Prop :=
  ∀ (P : Config.Params) (s t : State), stepWith P s = .next t →
    ((s.ledOn = false ∧ t.ledOn = true) ∨ t.ledOffDl ≠ s.ledOffDl ∨ t.ledNextDl ≠ s.ledNextDl) →
    s.atKeyboard ∧ ((s.ks = .cand ∧ t.ks = .pressed) ∨ (s.ks = .pressed ∧ t.ks = .idle))

/-- Nothing the LED registers hold reaches TX or any other register: two states that differ in them step to states that
differ in them and in the LED's part of the observation only (R52, 46_led.md). -/
def Obligations.LedIsInvisibleToTheHost : Prop :=
  ∀ (P : Config.Params) (s t : State) (on : Bool) (off next : Time), stepWith P s = .next t →
    ∃ t', stepWith P { s with ledOn := on, ledOffDl := off, ledNextDl := next } = .next t' ∧
      t' = { t with ledOn := t'.ledOn, ledOffDl := t'.ledOffDl, ledNextDl := t'.ledNextDl, trace := t'.trace } ∧
      withoutLed t'.trace = withoutLed t.trace

/-! ## Streams and independence (R44, R80) -/

/-- TX only grows, by at most the longest sequence of one sub-step, 12 bytes (R44, R228). -/
def Obligations.TxOnlyGrows : Prop :=
  ∀ (P : Config.Params) (s t : State), stepWith P s = .next t → ∃ bs, t.tx = s.tx ++ bs ∧ bs.length ≤ 12

/-- The observation and TX agree on the bytes sent, and every step keeps that (R44, R145). -/
def Obligations.ObservationMatchesTx : Prop :=
  sentBytes State.reset.trace = State.reset.tx ∧
  ∀ (P : Config.Params) (s t : State), sentBytes s.trace = s.tx → stepWith P s = .next t → sentBytes t.trace = t.tx

/-- The keyboard step neither reads nor writes what belongs to the host commands: RX, the host agent, HOST_WAIT. Its operands
and its arms name none of them (R180 to R187). -/
def Obligations.KeyboardStepIgnoresHost : Prop :=
  ∀ (P : Config.Params) (pol : Config.Policies) (s t : State) (rx : List Byte) (offers : List (Option Byte))
    (w : HostWait), kbdStep P pol s = .next t →
    kbdStep P pol { s with rx := rx, hostScript := offers, hostWait := w } =
      .next { t with rx := rx, hostScript := offers, hostWait := w }

/-! ## Reset and the invariant (R48, R49, R145, R340, R341) -/

/-- The registers at power-on (R30, R49, R340; the values are the spec's own choice, D28), and what POWERON_BAT = true adds
to them: [0xAA] on TX and nothing else (R341). -/
def Obligations.ResetValues : Prop :=
  State.reset.phase = .kbd ∧ State.reset.ks = .idle ∧ State.reset.candPos = 0xFF ∧ State.reset.debDeadline = 0 ∧
  State.reset.pressedPos = 0xFF ∧ State.reset.modsLive = 0 ∧ State.reset.modsSnap = 0 ∧ State.reset.tmDeadline = 0 ∧
  State.reset.cfgDelayIdx = 1 ∧ State.reset.cfgRepeatIdx = 11 ∧ State.reset.hostWait = .none ∧
  State.reset.ledOn = false ∧ State.reset.ledN = true ∧ State.reset.ledOffDl = 0 ∧ State.reset.ledNextDl = 0 ∧
  State.reset.colSel = 0xF ∧ State.reset.tx = [] ∧ State.reset.rx = [] ∧
  State.powerOn true = { State.reset with tx := [0xAA], trace := [.tx 0xAA] }

/-- The invariant holds at power-on (R48). -/
def Obligations.InvariantAtReset : Prop := State.reset.Inv Config.params

/-- Every step keeps the invariant, at any parameters (R48). -/
def Obligations.StepKeepsInvariant : Prop :=
  ∀ (P : Config.Params) (s t : State), s.Inv P → stepWith P s = .next t → t.Inv P

/-- Under the invariant a step of an admitted instance always goes on: no fault and no refusal (R145, R300). -/
def Obligations.InvariantNeverStops : Prop :=
  ∀ (P : Config.Params) (s : State), P.admitted = true → s.Inv P → ∃ t, stepWith P s = .next t

/-- The block never halts: every state that steps of an admitted instance lead to, from any state of the invariant and so with
any answers of the environment in hand, has a next state; and a poll from such a state at the keyboard step ends, by the
sub-steps, at the next poll's start or held in a parameter read (R145, R140, R144). -/
def Obligations.BlockNeverHalts : Prop :=
  ∀ (P : Config.Params) (s t : State), P.admitted = true → s.Inv P → Steps P s t →
    (∃ u, stepWith P t = .next u) ∧
    (t.atKeyboard → ∃ u, pollWith P t = .next u ∧ Steps P t u ∧ u.Inv P ∧
      (u.atKeyboard ∨ (u.phase = .host ∧ u.hostWait ≠ .none)))

/-- An instance is admitted exactly when it keeps the constraints of R8, and any other is refused as a whole: every step and
every poll (R9). The machine's step is the step of its own instance, which is admitted (log 7). -/
def Obligations.InstanceRefusedUnlessAdmitted : Prop :=
  (∀ P : Config.Params, P.admitted = true ↔
    (P.posCtrl ≠ P.posLShift ∧ P.posCtrl ≠ P.posRShift ∧ P.posLShift ≠ P.posRShift) ∧
    (∀ p, P.romU p = 0 ∨ ((P.romU p).extractLsb' 11 5 = 0 ∧ (P.romU p).extractLsb' 0 8 ≠ 0)) ∧
    (∀ p, P.romS p = 0 ∨ ((P.romS p).extractLsb' 11 5 = 0 ∧ (P.romS p).extractLsb' 0 8 ≠ 0)) ∧
    P.delayMs 1 = 500 ∧ P.repeatMs 11 = 92 ∧ P.tReply < P.tReset) ∧
  (∀ (P : Config.Params) (s : State), P.admitted = false →
    stepWith P s = .refused .parametersNotAdmitted ∧ pollWith P s = .refused .parametersNotAdmitted) ∧
  (∀ s : State, step s = stepWith Config.params s) ∧ Config.params.admitted = true

/-! ## The diagnostic channel, with DIAG_PRESENT = true (R320 to R322) -/

/-- The characters of the diagnostic step (R320, R321). None waiting, and any character but `d`, `s` and `r`: nothing. `d`: the
two position registers are shown, and no register and nothing on TX is written. `s` with two hex digits, of either case:
[x, 0xF0, x] on TX with x = 16*h1 + h0, and no register is written; a first or second character that is no hex digit is
refused. A digit that has not come is waited for. One character a step is the model's choice (log 20). -/
def Obligations.DiagnosticCommands : Prop :=
  (∀ c : Byte,
    (0x30 ≤ c.toNat ∧ c.toNat ≤ 0x39 → ∃ h, hexValue c = some h ∧ h.toNat = c.toNat - 0x30) ∧
    (0x41 ≤ c.toNat ∧ c.toNat ≤ 0x46 → ∃ h, hexValue c = some h ∧ h.toNat = c.toNat - 0x41 + 10) ∧
    (0x61 ≤ c.toNat ∧ c.toNat ≤ 0x66 → ∃ h, hexValue c = some h ∧ h.toNat = c.toNat - 0x61 + 10) ∧
    (¬ (0x30 ≤ c.toNat ∧ c.toNat ≤ 0x39) → ¬ (0x41 ≤ c.toNat ∧ c.toNat ≤ 0x46) →
      ¬ (0x61 ≤ c.toNat ∧ c.toNat ≤ 0x66) → hexValue c = none)) ∧
  (∀ s : State, (s.diagMode = .hexHigh ∨ ∃ h, s.diagMode = .hexLow h) → s.nextDiag = none →
    diagStep true s = .next s.askDiag) ∧
  (∀ s : State, s.phase = .diag → s.diagMode = .ready →
    (s.nextDiag = none → diagStep true s = .next { s.askDiag with phase := .led }) ∧
    (s.nextDiag = some 0x64 → ∃ text, diagStep true s = .next { s.askDiag with
      phase := .led
      diagOut := s.diagOut ++ [.keyDump s.candPos s.pressedPos text]
      draws := s.askDiag.draws + 1 }) ∧
    (s.nextDiag = some 0x72 → diagStep true s = .next { s.askDiag with diagMode := .rawLoop }) ∧
    (∀ c, s.nextDiag = some c → c ≠ 0x64 → c ≠ 0x73 → c ≠ 0x72 →
      diagStep true s = .next { s.askDiag with phase := .led }) ∧
    (∀ (c1 c0 : Byte), s.nextDiag = some 0x73 → s.askDiag.nextDiag = some c1 → s.askDiag.askDiag.nextDiag = some c0 →
      (∀ (h l : BitVec 4) (x : Byte), hexValue c1 = some h → hexValue c0 = some l →
        x.toNat = 16 * h.toNat + l.toNat →
        andThen (diagStep true s) (fun a => andThen (diagStep true a) (diagStep true)) =
          .next { s.askDiag.askDiag.askDiag with
            phase := .led
            tx := s.tx ++ [x, 0xF0, x]
            trace := s.trace ++ [.tx x, .tx 0xF0, .tx x] }) ∧
      (hexValue c1 = none → andThen (diagStep true s) (diagStep true) = .refused .diagNonHex) ∧
      (∀ h, hexValue c1 = some h → hexValue c0 = none →
        andThen (diagStep true s) (fun a => andThen (diagStep true a) (diagStep true)) = .refused .diagNonHex)))

/-- The diagnostic raw loop holds until a character comes, which is discarded and ends it. Each pass samples the ten columns,
writes one line of the ten inverted samples, leaves MODS_LIVE any value and COL_SEL idle, and changes nothing else: nothing on
TX, no key, configuration, wait or LED register (R322). How a pass and the arriving character are ordered is the model's choice
(log 20). -/
def Obligations.DiagnosticRawLoopHolds : Prop :=
  ∀ s : State, s.phase = .diag → s.diagMode = .rawLoop →
    (s.nextDiag = none → ∃ text mods draws, diagStep true s = .next { s with
      modsLive := mods
      colSel := 0xF
      diagOut := s.diagOut ++ [.rawLine ((samplesOf scanOrder s.askDiag).map fun x => ~~~x.2) text]
      diagScript := s.diagScript.tail
      rowScript := s.rowScript.drop 10
      draws := draws
      trace := s.trace ++
        ((samplesOf scanOrder s.askDiag).flatMap fun x =>
          [.colSel (BitVec.ofNat 4 x.1.val), .settleWait, .rowSample x.2]) ++ [.colSel 0xF] }) ∧
    (∀ c, s.nextDiag = some c → diagStep true s = .next { s.askDiag with phase := .led, diagMode := .ready })
end

