-- ==== Sys2Proof/Laws/Decode.lean ====
section
/-! SUPPORT. What the opcode map and the decoder can answer, once (spec/30_encoding.md R102, R111). -/

namespace Sys2Proof

/-- The recognised bytes are the map's. -/
theorem recognised_iff (b : Byte) : recognised b = true ↔ ∃ row ∈ opcodeMap, row.1 = b := by
  have : recognisedBytes = opcodeMap.map Prod.fst := rfl
  simp only [recognised, List.contains_iff_mem, this, List.mem_map]

/-- A byte outside the map is BYTE, and a byte of the map is one of its rows. -/
theorem formatOf_cases (b : Byte) :
    (recognised b = false ∧ formatOf b = .cmd (.byte b)) ∨
    (recognised b = true ∧ ∃ row ∈ opcodeMap, row.1 = b ∧ formatOf b = row.2) := by
  unfold formatOf
  cases h : opcodeMap.find? fun row => row.1 == b with
  | none =>
    rw [List.find?_eq_none] at h
    refine .inl ⟨?_, rfl⟩
    rw [Bool.eq_false_iff, ne_eq, recognised_iff]
    rintro ⟨row, hm, he⟩
    exact h row hm (by simpa using he)
  | some row =>
    have hm := List.mem_of_find?_eq_some h
    have he : row.1 = b := by simpa using List.find?_some h
    exact .inr ⟨(recognised_iff b).mpr ⟨row, hm, he⟩, row, hm, he, rfl⟩

/-- The rows with a parameter are SETLEDS, SCANSET and TYPEMATIC (R102). -/
theorem formatOf_cmdp {b : Byte} {mk : Byte → Instr} (h : formatOf b = .cmdp mk) :
    b = 0xED ∨ b = 0xF0 ∨ b = 0xF3 := by
  rcases formatOf_cases b with ⟨_, hf⟩ | ⟨_, row, hm, rfl, hf⟩
  · simp [hf] at h
  · rw [hf] at h
    simp only [opcodeMap, List.mem_cons, List.not_mem_nil, or_false] at hm
    rcases hm with rfl | rfl | rfl | rfl | rfl | rfl | rfl | rfl | rfl | rfl | rfl | rfl | rfl | rfl | rfl | rfl | rfl <;>
      simp at h ⊢

/-- Decoding stops for want of a parameter only on a lone CMDP command byte (R102). -/
theorem decode_awaits {bs : List Byte} {b : Byte} (h : decode bs = .error (.awaitsParameter b)) :
    bs = [b] ∧ (b = 0xED ∨ b = 0xF0 ∨ b = 0xF3) := by
  cases bs with
  | nil => simp [decode] at h
  | cons c rest =>
    cases hf : formatOf c with
    | cmd i => simp [decode, hf] at h
    | cmdp mk =>
      cases rest with
      | nil =>
        simp only [decode, hf, Except.error.injEq, DecodeError.awaitsParameter.injEq] at h
        exact ⟨by rw [h], h ▸ formatOf_cmdp hf⟩
      | cons p rest => simp [decode, hf] at h

/-- Decoding finds no byte only when there is none. -/
theorem decode_noByte {bs : List Byte} (h : decode bs = .error .noByte) : bs = [] := by
  cases bs with
  | nil => rfl
  | cons c rest => cases hf : formatOf c <;> cases rest <;> simp [decode, hf] at h

end Sys2Proof
end

