-- ==== Sys2Proof/Laws/State.lean ====
section
/-! SUPPORT. What each named update of the state does to each field, true by definition. -/

namespace Sys2Proof.Machine

/-! ### State.setPhase -/

@[simp] theorem State.setPhase_phase (s : State) (p : Phase) : (s.setPhase p).phase = p := rfl
@[simp] theorem State.setPhase_ks (s : State) (p : Phase) : (s.setPhase p).ks = s.ks := rfl
@[simp] theorem State.setPhase_candPos (s : State) (p : Phase) : (s.setPhase p).candPos = s.candPos := rfl
@[simp] theorem State.setPhase_debDeadline (s : State) (p : Phase) : (s.setPhase p).debDeadline = s.debDeadline := rfl
@[simp] theorem State.setPhase_pressedPos (s : State) (p : Phase) : (s.setPhase p).pressedPos = s.pressedPos := rfl
@[simp] theorem State.setPhase_modsLive (s : State) (p : Phase) : (s.setPhase p).modsLive = s.modsLive := rfl
@[simp] theorem State.setPhase_modsSnap (s : State) (p : Phase) : (s.setPhase p).modsSnap = s.modsSnap := rfl
@[simp] theorem State.setPhase_tmDeadline (s : State) (p : Phase) : (s.setPhase p).tmDeadline = s.tmDeadline := rfl
@[simp] theorem State.setPhase_cfgDelayIdx (s : State) (p : Phase) : (s.setPhase p).cfgDelayIdx = s.cfgDelayIdx := rfl
@[simp] theorem State.setPhase_cfgRepeatIdx (s : State) (p : Phase) : (s.setPhase p).cfgRepeatIdx = s.cfgRepeatIdx := rfl
@[simp] theorem State.setPhase_hostWait (s : State) (p : Phase) : (s.setPhase p).hostWait = s.hostWait := rfl
@[simp] theorem State.setPhase_ledOn (s : State) (p : Phase) : (s.setPhase p).ledOn = s.ledOn := rfl
@[simp] theorem State.setPhase_ledOffDl (s : State) (p : Phase) : (s.setPhase p).ledOffDl = s.ledOffDl := rfl
@[simp] theorem State.setPhase_ledNextDl (s : State) (p : Phase) : (s.setPhase p).ledNextDl = s.ledNextDl := rfl
@[simp] theorem State.setPhase_colSel (s : State) (p : Phase) : (s.setPhase p).colSel = s.colSel := rfl
@[simp] theorem State.setPhase_tx (s : State) (p : Phase) : (s.setPhase p).tx = s.tx := rfl
@[simp] theorem State.setPhase_rx (s : State) (p : Phase) : (s.setPhase p).rx = s.rx := rfl
@[simp] theorem State.setPhase_diagMode (s : State) (p : Phase) : (s.setPhase p).diagMode = s.diagMode := rfl
@[simp] theorem State.setPhase_diagOut (s : State) (p : Phase) : (s.setPhase p).diagOut = s.diagOut := rfl
@[simp] theorem State.setPhase_clockMs (s : State) (p : Phase) : (s.setPhase p).clockMs = s.clockMs := rfl
@[simp] theorem State.setPhase_clockScript (s : State) (p : Phase) : (s.setPhase p).clockScript = s.clockScript := rfl
@[simp] theorem State.setPhase_rowScript (s : State) (p : Phase) : (s.setPhase p).rowScript = s.rowScript := rfl
@[simp] theorem State.setPhase_hostScript (s : State) (p : Phase) : (s.setPhase p).hostScript = s.hostScript := rfl
@[simp] theorem State.setPhase_diagScript (s : State) (p : Phase) : (s.setPhase p).diagScript = s.diagScript := rfl
@[simp] theorem State.setPhase_draws (s : State) (p : Phase) : (s.setPhase p).draws = s.draws := rfl
@[simp] theorem State.setPhase_trace (s : State) (p : Phase) : (s.setPhase p).trace = s.trace := rfl

/-! ### State.observe -/

@[simp] theorem State.observe_phase (s : State) (es : List PortEvent) : (s.observe es).phase = s.phase := rfl
@[simp] theorem State.observe_ks (s : State) (es : List PortEvent) : (s.observe es).ks = s.ks := rfl
@[simp] theorem State.observe_candPos (s : State) (es : List PortEvent) : (s.observe es).candPos = s.candPos := rfl
@[simp] theorem State.observe_debDeadline (s : State) (es : List PortEvent) : (s.observe es).debDeadline = s.debDeadline := rfl
@[simp] theorem State.observe_pressedPos (s : State) (es : List PortEvent) : (s.observe es).pressedPos = s.pressedPos := rfl
@[simp] theorem State.observe_modsLive (s : State) (es : List PortEvent) : (s.observe es).modsLive = s.modsLive := rfl
@[simp] theorem State.observe_modsSnap (s : State) (es : List PortEvent) : (s.observe es).modsSnap = s.modsSnap := rfl
@[simp] theorem State.observe_tmDeadline (s : State) (es : List PortEvent) : (s.observe es).tmDeadline = s.tmDeadline := rfl
@[simp] theorem State.observe_cfgDelayIdx (s : State) (es : List PortEvent) : (s.observe es).cfgDelayIdx = s.cfgDelayIdx := rfl
@[simp] theorem State.observe_cfgRepeatIdx (s : State) (es : List PortEvent) : (s.observe es).cfgRepeatIdx = s.cfgRepeatIdx := rfl
@[simp] theorem State.observe_hostWait (s : State) (es : List PortEvent) : (s.observe es).hostWait = s.hostWait := rfl
@[simp] theorem State.observe_ledOn (s : State) (es : List PortEvent) : (s.observe es).ledOn = s.ledOn := rfl
@[simp] theorem State.observe_ledOffDl (s : State) (es : List PortEvent) : (s.observe es).ledOffDl = s.ledOffDl := rfl
@[simp] theorem State.observe_ledNextDl (s : State) (es : List PortEvent) : (s.observe es).ledNextDl = s.ledNextDl := rfl
@[simp] theorem State.observe_colSel (s : State) (es : List PortEvent) : (s.observe es).colSel = s.colSel := rfl
@[simp] theorem State.observe_tx (s : State) (es : List PortEvent) : (s.observe es).tx = s.tx := rfl
@[simp] theorem State.observe_rx (s : State) (es : List PortEvent) : (s.observe es).rx = s.rx := rfl
@[simp] theorem State.observe_diagMode (s : State) (es : List PortEvent) : (s.observe es).diagMode = s.diagMode := rfl
@[simp] theorem State.observe_diagOut (s : State) (es : List PortEvent) : (s.observe es).diagOut = s.diagOut := rfl
@[simp] theorem State.observe_clockMs (s : State) (es : List PortEvent) : (s.observe es).clockMs = s.clockMs := rfl
@[simp] theorem State.observe_clockScript (s : State) (es : List PortEvent) : (s.observe es).clockScript = s.clockScript := rfl
@[simp] theorem State.observe_rowScript (s : State) (es : List PortEvent) : (s.observe es).rowScript = s.rowScript := rfl
@[simp] theorem State.observe_hostScript (s : State) (es : List PortEvent) : (s.observe es).hostScript = s.hostScript := rfl
@[simp] theorem State.observe_diagScript (s : State) (es : List PortEvent) : (s.observe es).diagScript = s.diagScript := rfl
@[simp] theorem State.observe_draws (s : State) (es : List PortEvent) : (s.observe es).draws = s.draws := rfl
@[simp] theorem State.observe_trace (s : State) (es : List PortEvent) : (s.observe es).trace = s.trace ++ es := rfl

/-! ### State.emit -/

@[simp] theorem State.emit_phase (s : State) (bs : List Byte) : (s.emit bs).phase = s.phase := rfl
@[simp] theorem State.emit_ks (s : State) (bs : List Byte) : (s.emit bs).ks = s.ks := rfl
@[simp] theorem State.emit_candPos (s : State) (bs : List Byte) : (s.emit bs).candPos = s.candPos := rfl
@[simp] theorem State.emit_debDeadline (s : State) (bs : List Byte) : (s.emit bs).debDeadline = s.debDeadline := rfl
@[simp] theorem State.emit_pressedPos (s : State) (bs : List Byte) : (s.emit bs).pressedPos = s.pressedPos := rfl
@[simp] theorem State.emit_modsLive (s : State) (bs : List Byte) : (s.emit bs).modsLive = s.modsLive := rfl
@[simp] theorem State.emit_modsSnap (s : State) (bs : List Byte) : (s.emit bs).modsSnap = s.modsSnap := rfl
@[simp] theorem State.emit_tmDeadline (s : State) (bs : List Byte) : (s.emit bs).tmDeadline = s.tmDeadline := rfl
@[simp] theorem State.emit_cfgDelayIdx (s : State) (bs : List Byte) : (s.emit bs).cfgDelayIdx = s.cfgDelayIdx := rfl
@[simp] theorem State.emit_cfgRepeatIdx (s : State) (bs : List Byte) : (s.emit bs).cfgRepeatIdx = s.cfgRepeatIdx := rfl
@[simp] theorem State.emit_hostWait (s : State) (bs : List Byte) : (s.emit bs).hostWait = s.hostWait := rfl
@[simp] theorem State.emit_ledOn (s : State) (bs : List Byte) : (s.emit bs).ledOn = s.ledOn := rfl
@[simp] theorem State.emit_ledOffDl (s : State) (bs : List Byte) : (s.emit bs).ledOffDl = s.ledOffDl := rfl
@[simp] theorem State.emit_ledNextDl (s : State) (bs : List Byte) : (s.emit bs).ledNextDl = s.ledNextDl := rfl
@[simp] theorem State.emit_colSel (s : State) (bs : List Byte) : (s.emit bs).colSel = s.colSel := rfl
@[simp] theorem State.emit_tx (s : State) (bs : List Byte) : (s.emit bs).tx = s.tx ++ bs := rfl
@[simp] theorem State.emit_rx (s : State) (bs : List Byte) : (s.emit bs).rx = s.rx := rfl
@[simp] theorem State.emit_diagMode (s : State) (bs : List Byte) : (s.emit bs).diagMode = s.diagMode := rfl
@[simp] theorem State.emit_diagOut (s : State) (bs : List Byte) : (s.emit bs).diagOut = s.diagOut := rfl
@[simp] theorem State.emit_clockMs (s : State) (bs : List Byte) : (s.emit bs).clockMs = s.clockMs := rfl
@[simp] theorem State.emit_clockScript (s : State) (bs : List Byte) : (s.emit bs).clockScript = s.clockScript := rfl
@[simp] theorem State.emit_rowScript (s : State) (bs : List Byte) : (s.emit bs).rowScript = s.rowScript := rfl
@[simp] theorem State.emit_hostScript (s : State) (bs : List Byte) : (s.emit bs).hostScript = s.hostScript := rfl
@[simp] theorem State.emit_diagScript (s : State) (bs : List Byte) : (s.emit bs).diagScript = s.diagScript := rfl
@[simp] theorem State.emit_draws (s : State) (bs : List Byte) : (s.emit bs).draws = s.draws := rfl
@[simp] theorem State.emit_trace (s : State) (bs : List Byte) : (s.emit bs).trace = s.trace ++ bs.map .tx := rfl

/-! ### State.reply -/

@[simp] theorem State.reply_phase (s : State) (b : Byte) : (s.reply b).phase = s.phase := rfl
@[simp] theorem State.reply_ks (s : State) (b : Byte) : (s.reply b).ks = s.ks := rfl
@[simp] theorem State.reply_candPos (s : State) (b : Byte) : (s.reply b).candPos = s.candPos := rfl
@[simp] theorem State.reply_debDeadline (s : State) (b : Byte) : (s.reply b).debDeadline = s.debDeadline := rfl
@[simp] theorem State.reply_pressedPos (s : State) (b : Byte) : (s.reply b).pressedPos = s.pressedPos := rfl
@[simp] theorem State.reply_modsLive (s : State) (b : Byte) : (s.reply b).modsLive = s.modsLive := rfl
@[simp] theorem State.reply_modsSnap (s : State) (b : Byte) : (s.reply b).modsSnap = s.modsSnap := rfl
@[simp] theorem State.reply_tmDeadline (s : State) (b : Byte) : (s.reply b).tmDeadline = s.tmDeadline := rfl
@[simp] theorem State.reply_cfgDelayIdx (s : State) (b : Byte) : (s.reply b).cfgDelayIdx = s.cfgDelayIdx := rfl
@[simp] theorem State.reply_cfgRepeatIdx (s : State) (b : Byte) : (s.reply b).cfgRepeatIdx = s.cfgRepeatIdx := rfl
@[simp] theorem State.reply_hostWait (s : State) (b : Byte) : (s.reply b).hostWait = s.hostWait := rfl
@[simp] theorem State.reply_ledOn (s : State) (b : Byte) : (s.reply b).ledOn = s.ledOn := rfl
@[simp] theorem State.reply_ledOffDl (s : State) (b : Byte) : (s.reply b).ledOffDl = s.ledOffDl := rfl
@[simp] theorem State.reply_ledNextDl (s : State) (b : Byte) : (s.reply b).ledNextDl = s.ledNextDl := rfl
@[simp] theorem State.reply_colSel (s : State) (b : Byte) : (s.reply b).colSel = s.colSel := rfl
@[simp] theorem State.reply_tx (s : State) (b : Byte) : (s.reply b).tx = s.tx ++ [b] := rfl
@[simp] theorem State.reply_rx (s : State) (b : Byte) : (s.reply b).rx = s.rx := rfl
@[simp] theorem State.reply_diagMode (s : State) (b : Byte) : (s.reply b).diagMode = s.diagMode := rfl
@[simp] theorem State.reply_diagOut (s : State) (b : Byte) : (s.reply b).diagOut = s.diagOut := rfl
@[simp] theorem State.reply_clockMs (s : State) (b : Byte) : (s.reply b).clockMs = s.clockMs := rfl
@[simp] theorem State.reply_clockScript (s : State) (b : Byte) : (s.reply b).clockScript = s.clockScript := rfl
@[simp] theorem State.reply_rowScript (s : State) (b : Byte) : (s.reply b).rowScript = s.rowScript := rfl
@[simp] theorem State.reply_hostScript (s : State) (b : Byte) : (s.reply b).hostScript = s.hostScript := rfl
@[simp] theorem State.reply_diagScript (s : State) (b : Byte) : (s.reply b).diagScript = s.diagScript := rfl
@[simp] theorem State.reply_draws (s : State) (b : Byte) : (s.reply b).draws = s.draws := rfl
@[simp] theorem State.reply_trace (s : State) (b : Byte) : (s.reply b).trace = s.trace ++ [.replyWait] ++ [.tx b] := rfl

/-! ### State.replyAfterReset -/

@[simp] theorem State.replyAfterReset_phase (s : State) (b : Byte) : (s.replyAfterReset b).phase = s.phase := rfl
@[simp] theorem State.replyAfterReset_ks (s : State) (b : Byte) : (s.replyAfterReset b).ks = s.ks := rfl
@[simp] theorem State.replyAfterReset_candPos (s : State) (b : Byte) : (s.replyAfterReset b).candPos = s.candPos := rfl
@[simp] theorem State.replyAfterReset_debDeadline (s : State) (b : Byte) : (s.replyAfterReset b).debDeadline = s.debDeadline := rfl
@[simp] theorem State.replyAfterReset_pressedPos (s : State) (b : Byte) : (s.replyAfterReset b).pressedPos = s.pressedPos := rfl
@[simp] theorem State.replyAfterReset_modsLive (s : State) (b : Byte) : (s.replyAfterReset b).modsLive = s.modsLive := rfl
@[simp] theorem State.replyAfterReset_modsSnap (s : State) (b : Byte) : (s.replyAfterReset b).modsSnap = s.modsSnap := rfl
@[simp] theorem State.replyAfterReset_tmDeadline (s : State) (b : Byte) : (s.replyAfterReset b).tmDeadline = s.tmDeadline := rfl
@[simp] theorem State.replyAfterReset_cfgDelayIdx (s : State) (b : Byte) : (s.replyAfterReset b).cfgDelayIdx = s.cfgDelayIdx := rfl
@[simp] theorem State.replyAfterReset_cfgRepeatIdx (s : State) (b : Byte) : (s.replyAfterReset b).cfgRepeatIdx = s.cfgRepeatIdx := rfl
@[simp] theorem State.replyAfterReset_hostWait (s : State) (b : Byte) : (s.replyAfterReset b).hostWait = s.hostWait := rfl
@[simp] theorem State.replyAfterReset_ledOn (s : State) (b : Byte) : (s.replyAfterReset b).ledOn = s.ledOn := rfl
@[simp] theorem State.replyAfterReset_ledOffDl (s : State) (b : Byte) : (s.replyAfterReset b).ledOffDl = s.ledOffDl := rfl
@[simp] theorem State.replyAfterReset_ledNextDl (s : State) (b : Byte) : (s.replyAfterReset b).ledNextDl = s.ledNextDl := rfl
@[simp] theorem State.replyAfterReset_colSel (s : State) (b : Byte) : (s.replyAfterReset b).colSel = s.colSel := rfl
@[simp] theorem State.replyAfterReset_tx (s : State) (b : Byte) : (s.replyAfterReset b).tx = s.tx ++ [b] := rfl
@[simp] theorem State.replyAfterReset_rx (s : State) (b : Byte) : (s.replyAfterReset b).rx = s.rx := rfl
@[simp] theorem State.replyAfterReset_diagMode (s : State) (b : Byte) : (s.replyAfterReset b).diagMode = s.diagMode := rfl
@[simp] theorem State.replyAfterReset_diagOut (s : State) (b : Byte) : (s.replyAfterReset b).diagOut = s.diagOut := rfl
@[simp] theorem State.replyAfterReset_clockMs (s : State) (b : Byte) : (s.replyAfterReset b).clockMs = s.clockMs := rfl
@[simp] theorem State.replyAfterReset_clockScript (s : State) (b : Byte) : (s.replyAfterReset b).clockScript = s.clockScript := rfl
@[simp] theorem State.replyAfterReset_rowScript (s : State) (b : Byte) : (s.replyAfterReset b).rowScript = s.rowScript := rfl
@[simp] theorem State.replyAfterReset_hostScript (s : State) (b : Byte) : (s.replyAfterReset b).hostScript = s.hostScript := rfl
@[simp] theorem State.replyAfterReset_diagScript (s : State) (b : Byte) : (s.replyAfterReset b).diagScript = s.diagScript := rfl
@[simp] theorem State.replyAfterReset_draws (s : State) (b : Byte) : (s.replyAfterReset b).draws = s.draws := rfl
@[simp] theorem State.replyAfterReset_trace (s : State) (b : Byte) : (s.replyAfterReset b).trace = s.trace ++ [.resetWait] ++ [.tx b] := rfl

/-! ### State.readClock -/

@[simp] theorem State.readClock_phase (s : State) : (s.readClock).phase = s.phase := rfl
@[simp] theorem State.readClock_ks (s : State) : (s.readClock).ks = s.ks := rfl
@[simp] theorem State.readClock_candPos (s : State) : (s.readClock).candPos = s.candPos := rfl
@[simp] theorem State.readClock_debDeadline (s : State) : (s.readClock).debDeadline = s.debDeadline := rfl
@[simp] theorem State.readClock_pressedPos (s : State) : (s.readClock).pressedPos = s.pressedPos := rfl
@[simp] theorem State.readClock_modsLive (s : State) : (s.readClock).modsLive = s.modsLive := rfl
@[simp] theorem State.readClock_modsSnap (s : State) : (s.readClock).modsSnap = s.modsSnap := rfl
@[simp] theorem State.readClock_tmDeadline (s : State) : (s.readClock).tmDeadline = s.tmDeadline := rfl
@[simp] theorem State.readClock_cfgDelayIdx (s : State) : (s.readClock).cfgDelayIdx = s.cfgDelayIdx := rfl
@[simp] theorem State.readClock_cfgRepeatIdx (s : State) : (s.readClock).cfgRepeatIdx = s.cfgRepeatIdx := rfl
@[simp] theorem State.readClock_hostWait (s : State) : (s.readClock).hostWait = s.hostWait := rfl
@[simp] theorem State.readClock_ledOn (s : State) : (s.readClock).ledOn = s.ledOn := rfl
@[simp] theorem State.readClock_ledOffDl (s : State) : (s.readClock).ledOffDl = s.ledOffDl := rfl
@[simp] theorem State.readClock_ledNextDl (s : State) : (s.readClock).ledNextDl = s.ledNextDl := rfl
@[simp] theorem State.readClock_colSel (s : State) : (s.readClock).colSel = s.colSel := rfl
@[simp] theorem State.readClock_tx (s : State) : (s.readClock).tx = s.tx := rfl
@[simp] theorem State.readClock_rx (s : State) : (s.readClock).rx = s.rx := rfl
@[simp] theorem State.readClock_diagMode (s : State) : (s.readClock).diagMode = s.diagMode := rfl
@[simp] theorem State.readClock_diagOut (s : State) : (s.readClock).diagOut = s.diagOut := rfl
@[simp] theorem State.readClock_clockMs (s : State) : (s.readClock).clockMs = s.clockMs + s.nextAdvance := rfl
@[simp] theorem State.readClock_clockScript (s : State) : (s.readClock).clockScript = s.clockScript.tail := rfl
@[simp] theorem State.readClock_rowScript (s : State) : (s.readClock).rowScript = s.rowScript := rfl
@[simp] theorem State.readClock_hostScript (s : State) : (s.readClock).hostScript = s.hostScript := rfl
@[simp] theorem State.readClock_diagScript (s : State) : (s.readClock).diagScript = s.diagScript := rfl
@[simp] theorem State.readClock_draws (s : State) : (s.readClock).draws = if s.clockScript.isEmpty then s.draws + 1 else s.draws := rfl
@[simp] theorem State.readClock_trace (s : State) : (s.readClock).trace = s.trace := rfl

/-! ### State.sampleRow -/

@[simp] theorem State.sampleRow_phase (s : State) : (s.sampleRow).phase = s.phase := rfl
@[simp] theorem State.sampleRow_ks (s : State) : (s.sampleRow).ks = s.ks := rfl
@[simp] theorem State.sampleRow_candPos (s : State) : (s.sampleRow).candPos = s.candPos := rfl
@[simp] theorem State.sampleRow_debDeadline (s : State) : (s.sampleRow).debDeadline = s.debDeadline := rfl
@[simp] theorem State.sampleRow_pressedPos (s : State) : (s.sampleRow).pressedPos = s.pressedPos := rfl
@[simp] theorem State.sampleRow_modsLive (s : State) : (s.sampleRow).modsLive = s.modsLive := rfl
@[simp] theorem State.sampleRow_modsSnap (s : State) : (s.sampleRow).modsSnap = s.modsSnap := rfl
@[simp] theorem State.sampleRow_tmDeadline (s : State) : (s.sampleRow).tmDeadline = s.tmDeadline := rfl
@[simp] theorem State.sampleRow_cfgDelayIdx (s : State) : (s.sampleRow).cfgDelayIdx = s.cfgDelayIdx := rfl
@[simp] theorem State.sampleRow_cfgRepeatIdx (s : State) : (s.sampleRow).cfgRepeatIdx = s.cfgRepeatIdx := rfl
@[simp] theorem State.sampleRow_hostWait (s : State) : (s.sampleRow).hostWait = s.hostWait := rfl
@[simp] theorem State.sampleRow_ledOn (s : State) : (s.sampleRow).ledOn = s.ledOn := rfl
@[simp] theorem State.sampleRow_ledOffDl (s : State) : (s.sampleRow).ledOffDl = s.ledOffDl := rfl
@[simp] theorem State.sampleRow_ledNextDl (s : State) : (s.sampleRow).ledNextDl = s.ledNextDl := rfl
@[simp] theorem State.sampleRow_colSel (s : State) : (s.sampleRow).colSel = s.colSel := rfl
@[simp] theorem State.sampleRow_tx (s : State) : (s.sampleRow).tx = s.tx := rfl
@[simp] theorem State.sampleRow_rx (s : State) : (s.sampleRow).rx = s.rx := rfl
@[simp] theorem State.sampleRow_diagMode (s : State) : (s.sampleRow).diagMode = s.diagMode := rfl
@[simp] theorem State.sampleRow_diagOut (s : State) : (s.sampleRow).diagOut = s.diagOut := rfl
@[simp] theorem State.sampleRow_clockMs (s : State) : (s.sampleRow).clockMs = s.clockMs := rfl
@[simp] theorem State.sampleRow_clockScript (s : State) : (s.sampleRow).clockScript = s.clockScript := rfl
@[simp] theorem State.sampleRow_rowScript (s : State) : (s.sampleRow).rowScript = s.rowScript.tail := rfl
@[simp] theorem State.sampleRow_hostScript (s : State) : (s.sampleRow).hostScript = s.hostScript := rfl
@[simp] theorem State.sampleRow_diagScript (s : State) : (s.sampleRow).diagScript = s.diagScript := rfl
@[simp] theorem State.sampleRow_draws (s : State) : (s.sampleRow).draws = if s.rowScript.isEmpty then s.draws + 1 else s.draws := rfl
@[simp] theorem State.sampleRow_trace (s : State) : (s.sampleRow).trace = s.trace ++ [.rowSample s.nextRow] := rfl

/-! ### State.askHost -/

@[simp] theorem State.askHost_phase (s : State) : (s.askHost).phase = s.phase := rfl
@[simp] theorem State.askHost_ks (s : State) : (s.askHost).ks = s.ks := rfl
@[simp] theorem State.askHost_candPos (s : State) : (s.askHost).candPos = s.candPos := rfl
@[simp] theorem State.askHost_debDeadline (s : State) : (s.askHost).debDeadline = s.debDeadline := rfl
@[simp] theorem State.askHost_pressedPos (s : State) : (s.askHost).pressedPos = s.pressedPos := rfl
@[simp] theorem State.askHost_modsLive (s : State) : (s.askHost).modsLive = s.modsLive := rfl
@[simp] theorem State.askHost_modsSnap (s : State) : (s.askHost).modsSnap = s.modsSnap := rfl
@[simp] theorem State.askHost_tmDeadline (s : State) : (s.askHost).tmDeadline = s.tmDeadline := rfl
@[simp] theorem State.askHost_cfgDelayIdx (s : State) : (s.askHost).cfgDelayIdx = s.cfgDelayIdx := rfl
@[simp] theorem State.askHost_cfgRepeatIdx (s : State) : (s.askHost).cfgRepeatIdx = s.cfgRepeatIdx := rfl
@[simp] theorem State.askHost_hostWait (s : State) : (s.askHost).hostWait = s.hostWait := rfl
@[simp] theorem State.askHost_ledOn (s : State) : (s.askHost).ledOn = s.ledOn := rfl
@[simp] theorem State.askHost_ledOffDl (s : State) : (s.askHost).ledOffDl = s.ledOffDl := rfl
@[simp] theorem State.askHost_ledNextDl (s : State) : (s.askHost).ledNextDl = s.ledNextDl := rfl
@[simp] theorem State.askHost_colSel (s : State) : (s.askHost).colSel = s.colSel := rfl
@[simp] theorem State.askHost_tx (s : State) : (s.askHost).tx = s.tx := rfl
@[simp] theorem State.askHost_rx (s : State) : (s.askHost).rx = s.rx ++ s.nextOffer.toList := rfl
@[simp] theorem State.askHost_diagMode (s : State) : (s.askHost).diagMode = s.diagMode := rfl
@[simp] theorem State.askHost_diagOut (s : State) : (s.askHost).diagOut = s.diagOut := rfl
@[simp] theorem State.askHost_clockMs (s : State) : (s.askHost).clockMs = s.clockMs := rfl
@[simp] theorem State.askHost_clockScript (s : State) : (s.askHost).clockScript = s.clockScript := rfl
@[simp] theorem State.askHost_rowScript (s : State) : (s.askHost).rowScript = s.rowScript := rfl
@[simp] theorem State.askHost_hostScript (s : State) : (s.askHost).hostScript = s.hostScript.tail := rfl
@[simp] theorem State.askHost_diagScript (s : State) : (s.askHost).diagScript = s.diagScript := rfl
@[simp] theorem State.askHost_draws (s : State) : (s.askHost).draws = if s.hostScript.isEmpty then s.draws + 1 else s.draws := rfl
@[simp] theorem State.askHost_trace (s : State) : (s.askHost).trace = s.trace := rfl

/-! ### State.takeRx -/

@[simp] theorem State.takeRx_phase (s : State) (rest : List Byte) : (s.takeRx rest).phase = s.phase := rfl
@[simp] theorem State.takeRx_ks (s : State) (rest : List Byte) : (s.takeRx rest).ks = s.ks := rfl
@[simp] theorem State.takeRx_candPos (s : State) (rest : List Byte) : (s.takeRx rest).candPos = s.candPos := rfl
@[simp] theorem State.takeRx_debDeadline (s : State) (rest : List Byte) : (s.takeRx rest).debDeadline = s.debDeadline := rfl
@[simp] theorem State.takeRx_pressedPos (s : State) (rest : List Byte) : (s.takeRx rest).pressedPos = s.pressedPos := rfl
@[simp] theorem State.takeRx_modsLive (s : State) (rest : List Byte) : (s.takeRx rest).modsLive = s.modsLive := rfl
@[simp] theorem State.takeRx_modsSnap (s : State) (rest : List Byte) : (s.takeRx rest).modsSnap = s.modsSnap := rfl
@[simp] theorem State.takeRx_tmDeadline (s : State) (rest : List Byte) : (s.takeRx rest).tmDeadline = s.tmDeadline := rfl
@[simp] theorem State.takeRx_cfgDelayIdx (s : State) (rest : List Byte) : (s.takeRx rest).cfgDelayIdx = s.cfgDelayIdx := rfl
@[simp] theorem State.takeRx_cfgRepeatIdx (s : State) (rest : List Byte) : (s.takeRx rest).cfgRepeatIdx = s.cfgRepeatIdx := rfl
@[simp] theorem State.takeRx_hostWait (s : State) (rest : List Byte) : (s.takeRx rest).hostWait = s.hostWait := rfl
@[simp] theorem State.takeRx_ledOn (s : State) (rest : List Byte) : (s.takeRx rest).ledOn = s.ledOn := rfl
@[simp] theorem State.takeRx_ledOffDl (s : State) (rest : List Byte) : (s.takeRx rest).ledOffDl = s.ledOffDl := rfl
@[simp] theorem State.takeRx_ledNextDl (s : State) (rest : List Byte) : (s.takeRx rest).ledNextDl = s.ledNextDl := rfl
@[simp] theorem State.takeRx_colSel (s : State) (rest : List Byte) : (s.takeRx rest).colSel = s.colSel := rfl
@[simp] theorem State.takeRx_tx (s : State) (rest : List Byte) : (s.takeRx rest).tx = s.tx := rfl
@[simp] theorem State.takeRx_rx (s : State) (rest : List Byte) : (s.takeRx rest).rx = rest := rfl
@[simp] theorem State.takeRx_diagMode (s : State) (rest : List Byte) : (s.takeRx rest).diagMode = s.diagMode := rfl
@[simp] theorem State.takeRx_diagOut (s : State) (rest : List Byte) : (s.takeRx rest).diagOut = s.diagOut := rfl
@[simp] theorem State.takeRx_clockMs (s : State) (rest : List Byte) : (s.takeRx rest).clockMs = s.clockMs := rfl
@[simp] theorem State.takeRx_clockScript (s : State) (rest : List Byte) : (s.takeRx rest).clockScript = s.clockScript := rfl
@[simp] theorem State.takeRx_rowScript (s : State) (rest : List Byte) : (s.takeRx rest).rowScript = s.rowScript := rfl
@[simp] theorem State.takeRx_hostScript (s : State) (rest : List Byte) : (s.takeRx rest).hostScript = s.hostScript := rfl
@[simp] theorem State.takeRx_diagScript (s : State) (rest : List Byte) : (s.takeRx rest).diagScript = s.diagScript := rfl
@[simp] theorem State.takeRx_draws (s : State) (rest : List Byte) : (s.takeRx rest).draws = s.draws := rfl
@[simp] theorem State.takeRx_trace (s : State) (rest : List Byte) : (s.takeRx rest).trace = s.trace := rfl

/-! ### State.askDiag -/

@[simp] theorem State.askDiag_phase (s : State) : (s.askDiag).phase = s.phase := rfl
@[simp] theorem State.askDiag_ks (s : State) : (s.askDiag).ks = s.ks := rfl
@[simp] theorem State.askDiag_candPos (s : State) : (s.askDiag).candPos = s.candPos := rfl
@[simp] theorem State.askDiag_debDeadline (s : State) : (s.askDiag).debDeadline = s.debDeadline := rfl
@[simp] theorem State.askDiag_pressedPos (s : State) : (s.askDiag).pressedPos = s.pressedPos := rfl
@[simp] theorem State.askDiag_modsLive (s : State) : (s.askDiag).modsLive = s.modsLive := rfl
@[simp] theorem State.askDiag_modsSnap (s : State) : (s.askDiag).modsSnap = s.modsSnap := rfl
@[simp] theorem State.askDiag_tmDeadline (s : State) : (s.askDiag).tmDeadline = s.tmDeadline := rfl
@[simp] theorem State.askDiag_cfgDelayIdx (s : State) : (s.askDiag).cfgDelayIdx = s.cfgDelayIdx := rfl
@[simp] theorem State.askDiag_cfgRepeatIdx (s : State) : (s.askDiag).cfgRepeatIdx = s.cfgRepeatIdx := rfl
@[simp] theorem State.askDiag_hostWait (s : State) : (s.askDiag).hostWait = s.hostWait := rfl
@[simp] theorem State.askDiag_ledOn (s : State) : (s.askDiag).ledOn = s.ledOn := rfl
@[simp] theorem State.askDiag_ledOffDl (s : State) : (s.askDiag).ledOffDl = s.ledOffDl := rfl
@[simp] theorem State.askDiag_ledNextDl (s : State) : (s.askDiag).ledNextDl = s.ledNextDl := rfl
@[simp] theorem State.askDiag_colSel (s : State) : (s.askDiag).colSel = s.colSel := rfl
@[simp] theorem State.askDiag_tx (s : State) : (s.askDiag).tx = s.tx := rfl
@[simp] theorem State.askDiag_rx (s : State) : (s.askDiag).rx = s.rx := rfl
@[simp] theorem State.askDiag_diagMode (s : State) : (s.askDiag).diagMode = s.diagMode := rfl
@[simp] theorem State.askDiag_diagOut (s : State) : (s.askDiag).diagOut = s.diagOut := rfl
@[simp] theorem State.askDiag_clockMs (s : State) : (s.askDiag).clockMs = s.clockMs := rfl
@[simp] theorem State.askDiag_clockScript (s : State) : (s.askDiag).clockScript = s.clockScript := rfl
@[simp] theorem State.askDiag_rowScript (s : State) : (s.askDiag).rowScript = s.rowScript := rfl
@[simp] theorem State.askDiag_hostScript (s : State) : (s.askDiag).hostScript = s.hostScript := rfl
@[simp] theorem State.askDiag_diagScript (s : State) : (s.askDiag).diagScript = s.diagScript.tail := rfl
@[simp] theorem State.askDiag_draws (s : State) : (s.askDiag).draws = if s.diagScript.isEmpty then s.draws + 1 else s.draws := rfl
@[simp] theorem State.askDiag_trace (s : State) : (s.askDiag).trace = s.trace := rfl

/-! ### State.diagWrite -/

@[simp] theorem State.diagWrite_phase (s : State) (line : List Byte → DiagOutput) : (s.diagWrite line).phase = s.phase := rfl
@[simp] theorem State.diagWrite_ks (s : State) (line : List Byte → DiagOutput) : (s.diagWrite line).ks = s.ks := rfl
@[simp] theorem State.diagWrite_candPos (s : State) (line : List Byte → DiagOutput) : (s.diagWrite line).candPos = s.candPos := rfl
@[simp] theorem State.diagWrite_debDeadline (s : State) (line : List Byte → DiagOutput) : (s.diagWrite line).debDeadline = s.debDeadline := rfl
@[simp] theorem State.diagWrite_pressedPos (s : State) (line : List Byte → DiagOutput) : (s.diagWrite line).pressedPos = s.pressedPos := rfl
@[simp] theorem State.diagWrite_modsLive (s : State) (line : List Byte → DiagOutput) : (s.diagWrite line).modsLive = s.modsLive := rfl
@[simp] theorem State.diagWrite_modsSnap (s : State) (line : List Byte → DiagOutput) : (s.diagWrite line).modsSnap = s.modsSnap := rfl
@[simp] theorem State.diagWrite_tmDeadline (s : State) (line : List Byte → DiagOutput) : (s.diagWrite line).tmDeadline = s.tmDeadline := rfl
@[simp] theorem State.diagWrite_cfgDelayIdx (s : State) (line : List Byte → DiagOutput) : (s.diagWrite line).cfgDelayIdx = s.cfgDelayIdx := rfl
@[simp] theorem State.diagWrite_cfgRepeatIdx (s : State) (line : List Byte → DiagOutput) : (s.diagWrite line).cfgRepeatIdx = s.cfgRepeatIdx := rfl
@[simp] theorem State.diagWrite_hostWait (s : State) (line : List Byte → DiagOutput) : (s.diagWrite line).hostWait = s.hostWait := rfl
@[simp] theorem State.diagWrite_ledOn (s : State) (line : List Byte → DiagOutput) : (s.diagWrite line).ledOn = s.ledOn := rfl
@[simp] theorem State.diagWrite_ledOffDl (s : State) (line : List Byte → DiagOutput) : (s.diagWrite line).ledOffDl = s.ledOffDl := rfl
@[simp] theorem State.diagWrite_ledNextDl (s : State) (line : List Byte → DiagOutput) : (s.diagWrite line).ledNextDl = s.ledNextDl := rfl
@[simp] theorem State.diagWrite_colSel (s : State) (line : List Byte → DiagOutput) : (s.diagWrite line).colSel = s.colSel := rfl
@[simp] theorem State.diagWrite_tx (s : State) (line : List Byte → DiagOutput) : (s.diagWrite line).tx = s.tx := rfl
@[simp] theorem State.diagWrite_rx (s : State) (line : List Byte → DiagOutput) : (s.diagWrite line).rx = s.rx := rfl
@[simp] theorem State.diagWrite_diagMode (s : State) (line : List Byte → DiagOutput) : (s.diagWrite line).diagMode = s.diagMode := rfl
@[simp] theorem State.diagWrite_diagOut (s : State) (line : List Byte → DiagOutput) : (s.diagWrite line).diagOut = s.diagOut ++ [line (Config.diagText s.draws)] := rfl
@[simp] theorem State.diagWrite_clockMs (s : State) (line : List Byte → DiagOutput) : (s.diagWrite line).clockMs = s.clockMs := rfl
@[simp] theorem State.diagWrite_clockScript (s : State) (line : List Byte → DiagOutput) : (s.diagWrite line).clockScript = s.clockScript := rfl
@[simp] theorem State.diagWrite_rowScript (s : State) (line : List Byte → DiagOutput) : (s.diagWrite line).rowScript = s.rowScript := rfl
@[simp] theorem State.diagWrite_hostScript (s : State) (line : List Byte → DiagOutput) : (s.diagWrite line).hostScript = s.hostScript := rfl
@[simp] theorem State.diagWrite_diagScript (s : State) (line : List Byte → DiagOutput) : (s.diagWrite line).diagScript = s.diagScript := rfl
@[simp] theorem State.diagWrite_draws (s : State) (line : List Byte → DiagOutput) : (s.diagWrite line).draws = s.draws + 1 := rfl
@[simp] theorem State.diagWrite_trace (s : State) (line : List Byte → DiagOutput) : (s.diagWrite line).trace = s.trace := rfl

/-! ### State.endWait -/

@[simp] theorem State.endWait_phase (s : State) : (s.endWait).phase = s.phase := rfl
@[simp] theorem State.endWait_ks (s : State) : (s.endWait).ks = s.ks := rfl
@[simp] theorem State.endWait_candPos (s : State) : (s.endWait).candPos = s.candPos := rfl
@[simp] theorem State.endWait_debDeadline (s : State) : (s.endWait).debDeadline = s.debDeadline := rfl
@[simp] theorem State.endWait_pressedPos (s : State) : (s.endWait).pressedPos = s.pressedPos := rfl
@[simp] theorem State.endWait_modsLive (s : State) : (s.endWait).modsLive = s.modsLive := rfl
@[simp] theorem State.endWait_modsSnap (s : State) : (s.endWait).modsSnap = s.modsSnap := rfl
@[simp] theorem State.endWait_tmDeadline (s : State) : (s.endWait).tmDeadline = s.tmDeadline := rfl
@[simp] theorem State.endWait_cfgDelayIdx (s : State) : (s.endWait).cfgDelayIdx = s.cfgDelayIdx := rfl
@[simp] theorem State.endWait_cfgRepeatIdx (s : State) : (s.endWait).cfgRepeatIdx = s.cfgRepeatIdx := rfl
@[simp] theorem State.endWait_hostWait (s : State) : (s.endWait).hostWait = .none := rfl
@[simp] theorem State.endWait_ledOn (s : State) : (s.endWait).ledOn = s.ledOn := rfl
@[simp] theorem State.endWait_ledOffDl (s : State) : (s.endWait).ledOffDl = s.ledOffDl := rfl
@[simp] theorem State.endWait_ledNextDl (s : State) : (s.endWait).ledNextDl = s.ledNextDl := rfl
@[simp] theorem State.endWait_colSel (s : State) : (s.endWait).colSel = s.colSel := rfl
@[simp] theorem State.endWait_tx (s : State) : (s.endWait).tx = s.tx := rfl
@[simp] theorem State.endWait_rx (s : State) : (s.endWait).rx = s.rx := rfl
@[simp] theorem State.endWait_diagMode (s : State) : (s.endWait).diagMode = s.diagMode := rfl
@[simp] theorem State.endWait_diagOut (s : State) : (s.endWait).diagOut = s.diagOut := rfl
@[simp] theorem State.endWait_clockMs (s : State) : (s.endWait).clockMs = s.clockMs := rfl
@[simp] theorem State.endWait_clockScript (s : State) : (s.endWait).clockScript = s.clockScript := rfl
@[simp] theorem State.endWait_rowScript (s : State) : (s.endWait).rowScript = s.rowScript := rfl
@[simp] theorem State.endWait_hostScript (s : State) : (s.endWait).hostScript = s.hostScript := rfl
@[simp] theorem State.endWait_diagScript (s : State) : (s.endWait).diagScript = s.diagScript := rfl
@[simp] theorem State.endWait_draws (s : State) : (s.endWait).draws = s.draws := rfl
@[simp] theorem State.endWait_trace (s : State) : (s.endWait).trace = s.trace := rfl

/-! ### State.endDiag -/

@[simp] theorem State.endDiag_phase (s : State) : (s.endDiag).phase = .led := rfl
@[simp] theorem State.endDiag_ks (s : State) : (s.endDiag).ks = s.ks := rfl
@[simp] theorem State.endDiag_candPos (s : State) : (s.endDiag).candPos = s.candPos := rfl
@[simp] theorem State.endDiag_debDeadline (s : State) : (s.endDiag).debDeadline = s.debDeadline := rfl
@[simp] theorem State.endDiag_pressedPos (s : State) : (s.endDiag).pressedPos = s.pressedPos := rfl
@[simp] theorem State.endDiag_modsLive (s : State) : (s.endDiag).modsLive = s.modsLive := rfl
@[simp] theorem State.endDiag_modsSnap (s : State) : (s.endDiag).modsSnap = s.modsSnap := rfl
@[simp] theorem State.endDiag_tmDeadline (s : State) : (s.endDiag).tmDeadline = s.tmDeadline := rfl
@[simp] theorem State.endDiag_cfgDelayIdx (s : State) : (s.endDiag).cfgDelayIdx = s.cfgDelayIdx := rfl
@[simp] theorem State.endDiag_cfgRepeatIdx (s : State) : (s.endDiag).cfgRepeatIdx = s.cfgRepeatIdx := rfl
@[simp] theorem State.endDiag_hostWait (s : State) : (s.endDiag).hostWait = s.hostWait := rfl
@[simp] theorem State.endDiag_ledOn (s : State) : (s.endDiag).ledOn = s.ledOn := rfl
@[simp] theorem State.endDiag_ledOffDl (s : State) : (s.endDiag).ledOffDl = s.ledOffDl := rfl
@[simp] theorem State.endDiag_ledNextDl (s : State) : (s.endDiag).ledNextDl = s.ledNextDl := rfl
@[simp] theorem State.endDiag_colSel (s : State) : (s.endDiag).colSel = s.colSel := rfl
@[simp] theorem State.endDiag_tx (s : State) : (s.endDiag).tx = s.tx := rfl
@[simp] theorem State.endDiag_rx (s : State) : (s.endDiag).rx = s.rx := rfl
@[simp] theorem State.endDiag_diagMode (s : State) : (s.endDiag).diagMode = .ready := rfl
@[simp] theorem State.endDiag_diagOut (s : State) : (s.endDiag).diagOut = s.diagOut := rfl
@[simp] theorem State.endDiag_clockMs (s : State) : (s.endDiag).clockMs = s.clockMs := rfl
@[simp] theorem State.endDiag_clockScript (s : State) : (s.endDiag).clockScript = s.clockScript := rfl
@[simp] theorem State.endDiag_rowScript (s : State) : (s.endDiag).rowScript = s.rowScript := rfl
@[simp] theorem State.endDiag_hostScript (s : State) : (s.endDiag).hostScript = s.hostScript := rfl
@[simp] theorem State.endDiag_diagScript (s : State) : (s.endDiag).diagScript = s.diagScript := rfl
@[simp] theorem State.endDiag_draws (s : State) : (s.endDiag).draws = s.draws := rfl
@[simp] theorem State.endDiag_trace (s : State) : (s.endDiag).trace = s.trace := rfl

/-! ### State.drive -/

@[simp] theorem State.drive_phase (s : State) (c : Option (Fin 10)) : (s.drive c).phase = s.phase := rfl
@[simp] theorem State.drive_ks (s : State) (c : Option (Fin 10)) : (s.drive c).ks = s.ks := rfl
@[simp] theorem State.drive_candPos (s : State) (c : Option (Fin 10)) : (s.drive c).candPos = s.candPos := rfl
@[simp] theorem State.drive_debDeadline (s : State) (c : Option (Fin 10)) : (s.drive c).debDeadline = s.debDeadline := rfl
@[simp] theorem State.drive_pressedPos (s : State) (c : Option (Fin 10)) : (s.drive c).pressedPos = s.pressedPos := rfl
@[simp] theorem State.drive_modsLive (s : State) (c : Option (Fin 10)) : (s.drive c).modsLive = s.modsLive := rfl
@[simp] theorem State.drive_modsSnap (s : State) (c : Option (Fin 10)) : (s.drive c).modsSnap = s.modsSnap := rfl
@[simp] theorem State.drive_tmDeadline (s : State) (c : Option (Fin 10)) : (s.drive c).tmDeadline = s.tmDeadline := rfl
@[simp] theorem State.drive_cfgDelayIdx (s : State) (c : Option (Fin 10)) : (s.drive c).cfgDelayIdx = s.cfgDelayIdx := rfl
@[simp] theorem State.drive_cfgRepeatIdx (s : State) (c : Option (Fin 10)) : (s.drive c).cfgRepeatIdx = s.cfgRepeatIdx := rfl
@[simp] theorem State.drive_hostWait (s : State) (c : Option (Fin 10)) : (s.drive c).hostWait = s.hostWait := rfl
@[simp] theorem State.drive_ledOn (s : State) (c : Option (Fin 10)) : (s.drive c).ledOn = s.ledOn := rfl
@[simp] theorem State.drive_ledOffDl (s : State) (c : Option (Fin 10)) : (s.drive c).ledOffDl = s.ledOffDl := rfl
@[simp] theorem State.drive_ledNextDl (s : State) (c : Option (Fin 10)) : (s.drive c).ledNextDl = s.ledNextDl := rfl
@[simp] theorem State.drive_colSel (s : State) (c : Option (Fin 10)) : (s.drive c).colSel = columnCode c := rfl
@[simp] theorem State.drive_tx (s : State) (c : Option (Fin 10)) : (s.drive c).tx = s.tx := rfl
@[simp] theorem State.drive_rx (s : State) (c : Option (Fin 10)) : (s.drive c).rx = s.rx := rfl
@[simp] theorem State.drive_diagMode (s : State) (c : Option (Fin 10)) : (s.drive c).diagMode = s.diagMode := rfl
@[simp] theorem State.drive_diagOut (s : State) (c : Option (Fin 10)) : (s.drive c).diagOut = s.diagOut := rfl
@[simp] theorem State.drive_clockMs (s : State) (c : Option (Fin 10)) : (s.drive c).clockMs = s.clockMs := rfl
@[simp] theorem State.drive_clockScript (s : State) (c : Option (Fin 10)) : (s.drive c).clockScript = s.clockScript := rfl
@[simp] theorem State.drive_rowScript (s : State) (c : Option (Fin 10)) : (s.drive c).rowScript = s.rowScript := rfl
@[simp] theorem State.drive_hostScript (s : State) (c : Option (Fin 10)) : (s.drive c).hostScript = s.hostScript := rfl
@[simp] theorem State.drive_diagScript (s : State) (c : Option (Fin 10)) : (s.drive c).diagScript = s.diagScript := rfl
@[simp] theorem State.drive_draws (s : State) (c : Option (Fin 10)) : (s.drive c).draws = s.draws := rfl
@[simp] theorem State.drive_trace (s : State) (c : Option (Fin 10)) : (s.drive c).trace = s.trace ++ [.colSel (columnCode c)] := rfl

/-! ### State.select -/

@[simp] theorem State.select_phase (s : State) (c : Fin 10) : (s.select c).phase = s.phase := rfl
@[simp] theorem State.select_ks (s : State) (c : Fin 10) : (s.select c).ks = s.ks := rfl
@[simp] theorem State.select_candPos (s : State) (c : Fin 10) : (s.select c).candPos = s.candPos := rfl
@[simp] theorem State.select_debDeadline (s : State) (c : Fin 10) : (s.select c).debDeadline = s.debDeadline := rfl
@[simp] theorem State.select_pressedPos (s : State) (c : Fin 10) : (s.select c).pressedPos = s.pressedPos := rfl
@[simp] theorem State.select_modsLive (s : State) (c : Fin 10) : (s.select c).modsLive = s.modsLive := rfl
@[simp] theorem State.select_modsSnap (s : State) (c : Fin 10) : (s.select c).modsSnap = s.modsSnap := rfl
@[simp] theorem State.select_tmDeadline (s : State) (c : Fin 10) : (s.select c).tmDeadline = s.tmDeadline := rfl
@[simp] theorem State.select_cfgDelayIdx (s : State) (c : Fin 10) : (s.select c).cfgDelayIdx = s.cfgDelayIdx := rfl
@[simp] theorem State.select_cfgRepeatIdx (s : State) (c : Fin 10) : (s.select c).cfgRepeatIdx = s.cfgRepeatIdx := rfl
@[simp] theorem State.select_hostWait (s : State) (c : Fin 10) : (s.select c).hostWait = s.hostWait := rfl
@[simp] theorem State.select_ledOn (s : State) (c : Fin 10) : (s.select c).ledOn = s.ledOn := rfl
@[simp] theorem State.select_ledOffDl (s : State) (c : Fin 10) : (s.select c).ledOffDl = s.ledOffDl := rfl
@[simp] theorem State.select_ledNextDl (s : State) (c : Fin 10) : (s.select c).ledNextDl = s.ledNextDl := rfl
@[simp] theorem State.select_colSel (s : State) (c : Fin 10) : (s.select c).colSel = columnCode (some c) := rfl
@[simp] theorem State.select_tx (s : State) (c : Fin 10) : (s.select c).tx = s.tx := rfl
@[simp] theorem State.select_rx (s : State) (c : Fin 10) : (s.select c).rx = s.rx := rfl
@[simp] theorem State.select_diagMode (s : State) (c : Fin 10) : (s.select c).diagMode = s.diagMode := rfl
@[simp] theorem State.select_diagOut (s : State) (c : Fin 10) : (s.select c).diagOut = s.diagOut := rfl
@[simp] theorem State.select_clockMs (s : State) (c : Fin 10) : (s.select c).clockMs = s.clockMs := rfl
@[simp] theorem State.select_clockScript (s : State) (c : Fin 10) : (s.select c).clockScript = s.clockScript := rfl
@[simp] theorem State.select_rowScript (s : State) (c : Fin 10) : (s.select c).rowScript = s.rowScript := rfl
@[simp] theorem State.select_hostScript (s : State) (c : Fin 10) : (s.select c).hostScript = s.hostScript := rfl
@[simp] theorem State.select_diagScript (s : State) (c : Fin 10) : (s.select c).diagScript = s.diagScript := rfl
@[simp] theorem State.select_draws (s : State) (c : Fin 10) : (s.select c).draws = s.draws := rfl
@[simp] theorem State.select_trace (s : State) (c : Fin 10) : (s.select c).trace = s.trace ++ [.colSel (columnCode (some c))] ++ [.settleWait] := rfl

/-! ### State.offerCommand -/

@[simp] theorem State.offerCommand_phase (s : State) (bs : List Byte) : (s.offerCommand bs).phase = .host := rfl
@[simp] theorem State.offerCommand_ks (s : State) (bs : List Byte) : (s.offerCommand bs).ks = s.ks := rfl
@[simp] theorem State.offerCommand_candPos (s : State) (bs : List Byte) : (s.offerCommand bs).candPos = s.candPos := rfl
@[simp] theorem State.offerCommand_debDeadline (s : State) (bs : List Byte) : (s.offerCommand bs).debDeadline = s.debDeadline := rfl
@[simp] theorem State.offerCommand_pressedPos (s : State) (bs : List Byte) : (s.offerCommand bs).pressedPos = s.pressedPos := rfl
@[simp] theorem State.offerCommand_modsLive (s : State) (bs : List Byte) : (s.offerCommand bs).modsLive = s.modsLive := rfl
@[simp] theorem State.offerCommand_modsSnap (s : State) (bs : List Byte) : (s.offerCommand bs).modsSnap = s.modsSnap := rfl
@[simp] theorem State.offerCommand_tmDeadline (s : State) (bs : List Byte) : (s.offerCommand bs).tmDeadline = s.tmDeadline := rfl
@[simp] theorem State.offerCommand_cfgDelayIdx (s : State) (bs : List Byte) : (s.offerCommand bs).cfgDelayIdx = s.cfgDelayIdx := rfl
@[simp] theorem State.offerCommand_cfgRepeatIdx (s : State) (bs : List Byte) : (s.offerCommand bs).cfgRepeatIdx = s.cfgRepeatIdx := rfl
@[simp] theorem State.offerCommand_hostWait (s : State) (bs : List Byte) : (s.offerCommand bs).hostWait = .none := rfl
@[simp] theorem State.offerCommand_ledOn (s : State) (bs : List Byte) : (s.offerCommand bs).ledOn = s.ledOn := rfl
@[simp] theorem State.offerCommand_ledOffDl (s : State) (bs : List Byte) : (s.offerCommand bs).ledOffDl = s.ledOffDl := rfl
@[simp] theorem State.offerCommand_ledNextDl (s : State) (bs : List Byte) : (s.offerCommand bs).ledNextDl = s.ledNextDl := rfl
@[simp] theorem State.offerCommand_colSel (s : State) (bs : List Byte) : (s.offerCommand bs).colSel = s.colSel := rfl
@[simp] theorem State.offerCommand_tx (s : State) (bs : List Byte) : (s.offerCommand bs).tx = s.tx := rfl
@[simp] theorem State.offerCommand_rx (s : State) (bs : List Byte) : (s.offerCommand bs).rx = bs ++ s.rx := rfl
@[simp] theorem State.offerCommand_diagMode (s : State) (bs : List Byte) : (s.offerCommand bs).diagMode = s.diagMode := rfl
@[simp] theorem State.offerCommand_diagOut (s : State) (bs : List Byte) : (s.offerCommand bs).diagOut = s.diagOut := rfl
@[simp] theorem State.offerCommand_clockMs (s : State) (bs : List Byte) : (s.offerCommand bs).clockMs = s.clockMs := rfl
@[simp] theorem State.offerCommand_clockScript (s : State) (bs : List Byte) : (s.offerCommand bs).clockScript = s.clockScript := rfl
@[simp] theorem State.offerCommand_rowScript (s : State) (bs : List Byte) : (s.offerCommand bs).rowScript = s.rowScript := rfl
@[simp] theorem State.offerCommand_hostScript (s : State) (bs : List Byte) : (s.offerCommand bs).hostScript = s.hostScript := rfl
@[simp] theorem State.offerCommand_diagScript (s : State) (bs : List Byte) : (s.offerCommand bs).diagScript = s.diagScript := rfl
@[simp] theorem State.offerCommand_draws (s : State) (bs : List Byte) : (s.offerCommand bs).draws = s.draws := rfl
@[simp] theorem State.offerCommand_trace (s : State) (bs : List Byte) : (s.offerCommand bs).trace = s.trace := rfl

/-! ### rejectCandidate -/

@[simp] theorem rejectCandidate_phase (s : State) : (rejectCandidate s).phase = s.phase := rfl
@[simp] theorem rejectCandidate_ks (s : State) : (rejectCandidate s).ks = .idle := rfl
@[simp] theorem rejectCandidate_candPos (s : State) : (rejectCandidate s).candPos = Config.noKey := rfl
@[simp] theorem rejectCandidate_debDeadline (s : State) : (rejectCandidate s).debDeadline = s.debDeadline := rfl
@[simp] theorem rejectCandidate_pressedPos (s : State) : (rejectCandidate s).pressedPos = s.pressedPos := rfl
@[simp] theorem rejectCandidate_modsLive (s : State) : (rejectCandidate s).modsLive = s.modsLive := rfl
@[simp] theorem rejectCandidate_modsSnap (s : State) : (rejectCandidate s).modsSnap = s.modsSnap := rfl
@[simp] theorem rejectCandidate_tmDeadline (s : State) : (rejectCandidate s).tmDeadline = s.tmDeadline := rfl
@[simp] theorem rejectCandidate_cfgDelayIdx (s : State) : (rejectCandidate s).cfgDelayIdx = s.cfgDelayIdx := rfl
@[simp] theorem rejectCandidate_cfgRepeatIdx (s : State) : (rejectCandidate s).cfgRepeatIdx = s.cfgRepeatIdx := rfl
@[simp] theorem rejectCandidate_hostWait (s : State) : (rejectCandidate s).hostWait = s.hostWait := rfl
@[simp] theorem rejectCandidate_ledOn (s : State) : (rejectCandidate s).ledOn = s.ledOn := rfl
@[simp] theorem rejectCandidate_ledOffDl (s : State) : (rejectCandidate s).ledOffDl = s.ledOffDl := rfl
@[simp] theorem rejectCandidate_ledNextDl (s : State) : (rejectCandidate s).ledNextDl = s.ledNextDl := rfl
@[simp] theorem rejectCandidate_colSel (s : State) : (rejectCandidate s).colSel = s.colSel := rfl
@[simp] theorem rejectCandidate_tx (s : State) : (rejectCandidate s).tx = s.tx := rfl
@[simp] theorem rejectCandidate_rx (s : State) : (rejectCandidate s).rx = s.rx := rfl
@[simp] theorem rejectCandidate_diagMode (s : State) : (rejectCandidate s).diagMode = s.diagMode := rfl
@[simp] theorem rejectCandidate_diagOut (s : State) : (rejectCandidate s).diagOut = s.diagOut := rfl
@[simp] theorem rejectCandidate_clockMs (s : State) : (rejectCandidate s).clockMs = s.clockMs := rfl
@[simp] theorem rejectCandidate_clockScript (s : State) : (rejectCandidate s).clockScript = s.clockScript := rfl
@[simp] theorem rejectCandidate_rowScript (s : State) : (rejectCandidate s).rowScript = s.rowScript := rfl
@[simp] theorem rejectCandidate_hostScript (s : State) : (rejectCandidate s).hostScript = s.hostScript := rfl
@[simp] theorem rejectCandidate_diagScript (s : State) : (rejectCandidate s).diagScript = s.diagScript := rfl
@[simp] theorem rejectCandidate_draws (s : State) : (rejectCandidate s).draws = s.draws := rfl
@[simp] theorem rejectCandidate_trace (s : State) : (rejectCandidate s).trace = s.trace := rfl

/-! ### beginParameter -/

@[simp] theorem beginParameter_phase (w : HostWait) (s : State) : (beginParameter w s).phase = s.phase := rfl
@[simp] theorem beginParameter_ks (w : HostWait) (s : State) : (beginParameter w s).ks = s.ks := rfl
@[simp] theorem beginParameter_candPos (w : HostWait) (s : State) : (beginParameter w s).candPos = s.candPos := rfl
@[simp] theorem beginParameter_debDeadline (w : HostWait) (s : State) : (beginParameter w s).debDeadline = s.debDeadline := rfl
@[simp] theorem beginParameter_pressedPos (w : HostWait) (s : State) : (beginParameter w s).pressedPos = s.pressedPos := rfl
@[simp] theorem beginParameter_modsLive (w : HostWait) (s : State) : (beginParameter w s).modsLive = s.modsLive := rfl
@[simp] theorem beginParameter_modsSnap (w : HostWait) (s : State) : (beginParameter w s).modsSnap = s.modsSnap := rfl
@[simp] theorem beginParameter_tmDeadline (w : HostWait) (s : State) : (beginParameter w s).tmDeadline = s.tmDeadline := rfl
@[simp] theorem beginParameter_cfgDelayIdx (w : HostWait) (s : State) : (beginParameter w s).cfgDelayIdx = s.cfgDelayIdx := rfl
@[simp] theorem beginParameter_cfgRepeatIdx (w : HostWait) (s : State) : (beginParameter w s).cfgRepeatIdx = s.cfgRepeatIdx := rfl
@[simp] theorem beginParameter_hostWait (w : HostWait) (s : State) : (beginParameter w s).hostWait = w := rfl
@[simp] theorem beginParameter_ledOn (w : HostWait) (s : State) : (beginParameter w s).ledOn = s.ledOn := rfl
@[simp] theorem beginParameter_ledOffDl (w : HostWait) (s : State) : (beginParameter w s).ledOffDl = s.ledOffDl := rfl
@[simp] theorem beginParameter_ledNextDl (w : HostWait) (s : State) : (beginParameter w s).ledNextDl = s.ledNextDl := rfl
@[simp] theorem beginParameter_colSel (w : HostWait) (s : State) : (beginParameter w s).colSel = s.colSel := rfl
@[simp] theorem beginParameter_tx (w : HostWait) (s : State) : (beginParameter w s).tx = s.tx ++ [Config.ack] := rfl
@[simp] theorem beginParameter_rx (w : HostWait) (s : State) : (beginParameter w s).rx = s.rx := rfl
@[simp] theorem beginParameter_diagMode (w : HostWait) (s : State) : (beginParameter w s).diagMode = s.diagMode := rfl
@[simp] theorem beginParameter_diagOut (w : HostWait) (s : State) : (beginParameter w s).diagOut = s.diagOut := rfl
@[simp] theorem beginParameter_clockMs (w : HostWait) (s : State) : (beginParameter w s).clockMs = s.clockMs := rfl
@[simp] theorem beginParameter_clockScript (w : HostWait) (s : State) : (beginParameter w s).clockScript = s.clockScript := rfl
@[simp] theorem beginParameter_rowScript (w : HostWait) (s : State) : (beginParameter w s).rowScript = s.rowScript := rfl
@[simp] theorem beginParameter_hostScript (w : HostWait) (s : State) : (beginParameter w s).hostScript = s.hostScript := rfl
@[simp] theorem beginParameter_diagScript (w : HostWait) (s : State) : (beginParameter w s).diagScript = s.diagScript := rfl
@[simp] theorem beginParameter_draws (w : HostWait) (s : State) : (beginParameter w s).draws = s.draws := rfl
@[simp] theorem beginParameter_trace (w : HostWait) (s : State) : (beginParameter w s).trace = s.trace ++ [.replyWait] ++ [.tx Config.ack] := rfl

end Sys2Proof.Machine
end

