-- ==== Sys2Proof/Laws/Frames.lean ====
section
/-! SUPPORT. What the operations that branch or loop leave alone: one lemma per untouched field. -/

namespace Sys2Proof.Machine

/-! ### State.awaitBytes -/

@[simp] theorem State.awaitBytes_phase (s : State) (n : Nat) : (s.awaitBytes n).phase = s.phase := by unfold State.awaitBytes; split <;> rfl
@[simp] theorem State.awaitBytes_ks (s : State) (n : Nat) : (s.awaitBytes n).ks = s.ks := by unfold State.awaitBytes; split <;> rfl
@[simp] theorem State.awaitBytes_candPos (s : State) (n : Nat) : (s.awaitBytes n).candPos = s.candPos := by unfold State.awaitBytes; split <;> rfl
@[simp] theorem State.awaitBytes_debDeadline (s : State) (n : Nat) : (s.awaitBytes n).debDeadline = s.debDeadline := by unfold State.awaitBytes; split <;> rfl
@[simp] theorem State.awaitBytes_pressedPos (s : State) (n : Nat) : (s.awaitBytes n).pressedPos = s.pressedPos := by unfold State.awaitBytes; split <;> rfl
@[simp] theorem State.awaitBytes_modsLive (s : State) (n : Nat) : (s.awaitBytes n).modsLive = s.modsLive := by unfold State.awaitBytes; split <;> rfl
@[simp] theorem State.awaitBytes_modsSnap (s : State) (n : Nat) : (s.awaitBytes n).modsSnap = s.modsSnap := by unfold State.awaitBytes; split <;> rfl
@[simp] theorem State.awaitBytes_tmDeadline (s : State) (n : Nat) : (s.awaitBytes n).tmDeadline = s.tmDeadline := by unfold State.awaitBytes; split <;> rfl
@[simp] theorem State.awaitBytes_cfgDelayIdx (s : State) (n : Nat) : (s.awaitBytes n).cfgDelayIdx = s.cfgDelayIdx := by unfold State.awaitBytes; split <;> rfl
@[simp] theorem State.awaitBytes_cfgRepeatIdx (s : State) (n : Nat) : (s.awaitBytes n).cfgRepeatIdx = s.cfgRepeatIdx := by unfold State.awaitBytes; split <;> rfl
@[simp] theorem State.awaitBytes_hostWait (s : State) (n : Nat) : (s.awaitBytes n).hostWait = s.hostWait := by unfold State.awaitBytes; split <;> rfl
@[simp] theorem State.awaitBytes_ledOn (s : State) (n : Nat) : (s.awaitBytes n).ledOn = s.ledOn := by unfold State.awaitBytes; split <;> rfl
@[simp] theorem State.awaitBytes_ledOffDl (s : State) (n : Nat) : (s.awaitBytes n).ledOffDl = s.ledOffDl := by unfold State.awaitBytes; split <;> rfl
@[simp] theorem State.awaitBytes_ledNextDl (s : State) (n : Nat) : (s.awaitBytes n).ledNextDl = s.ledNextDl := by unfold State.awaitBytes; split <;> rfl
@[simp] theorem State.awaitBytes_colSel (s : State) (n : Nat) : (s.awaitBytes n).colSel = s.colSel := by unfold State.awaitBytes; split <;> rfl
@[simp] theorem State.awaitBytes_tx (s : State) (n : Nat) : (s.awaitBytes n).tx = s.tx := by unfold State.awaitBytes; split <;> rfl
@[simp] theorem State.awaitBytes_diagMode (s : State) (n : Nat) : (s.awaitBytes n).diagMode = s.diagMode := by unfold State.awaitBytes; split <;> rfl
@[simp] theorem State.awaitBytes_diagOut (s : State) (n : Nat) : (s.awaitBytes n).diagOut = s.diagOut := by unfold State.awaitBytes; split <;> rfl
@[simp] theorem State.awaitBytes_clockMs (s : State) (n : Nat) : (s.awaitBytes n).clockMs = s.clockMs := by unfold State.awaitBytes; split <;> rfl
@[simp] theorem State.awaitBytes_clockScript (s : State) (n : Nat) : (s.awaitBytes n).clockScript = s.clockScript := by unfold State.awaitBytes; split <;> rfl
@[simp] theorem State.awaitBytes_rowScript (s : State) (n : Nat) : (s.awaitBytes n).rowScript = s.rowScript := by unfold State.awaitBytes; split <;> rfl
@[simp] theorem State.awaitBytes_diagScript (s : State) (n : Nat) : (s.awaitBytes n).diagScript = s.diagScript := by unfold State.awaitBytes; split <;> rfl
@[simp] theorem State.awaitBytes_trace (s : State) (n : Nat) : (s.awaitBytes n).trace = s.trace := by unfold State.awaitBytes; split <;> rfl

/-! ### State.fetchCommand -/

@[simp] theorem State.fetchCommand_phase (s : State) : s.fetchCommand.phase = s.phase := by unfold State.fetchCommand; dsimp only; split <;> simp
@[simp] theorem State.fetchCommand_ks (s : State) : s.fetchCommand.ks = s.ks := by unfold State.fetchCommand; dsimp only; split <;> simp
@[simp] theorem State.fetchCommand_candPos (s : State) : s.fetchCommand.candPos = s.candPos := by unfold State.fetchCommand; dsimp only; split <;> simp
@[simp] theorem State.fetchCommand_debDeadline (s : State) : s.fetchCommand.debDeadline = s.debDeadline := by unfold State.fetchCommand; dsimp only; split <;> simp
@[simp] theorem State.fetchCommand_pressedPos (s : State) : s.fetchCommand.pressedPos = s.pressedPos := by unfold State.fetchCommand; dsimp only; split <;> simp
@[simp] theorem State.fetchCommand_modsLive (s : State) : s.fetchCommand.modsLive = s.modsLive := by unfold State.fetchCommand; dsimp only; split <;> simp
@[simp] theorem State.fetchCommand_modsSnap (s : State) : s.fetchCommand.modsSnap = s.modsSnap := by unfold State.fetchCommand; dsimp only; split <;> simp
@[simp] theorem State.fetchCommand_tmDeadline (s : State) : s.fetchCommand.tmDeadline = s.tmDeadline := by unfold State.fetchCommand; dsimp only; split <;> simp
@[simp] theorem State.fetchCommand_cfgDelayIdx (s : State) : s.fetchCommand.cfgDelayIdx = s.cfgDelayIdx := by unfold State.fetchCommand; dsimp only; split <;> simp
@[simp] theorem State.fetchCommand_cfgRepeatIdx (s : State) : s.fetchCommand.cfgRepeatIdx = s.cfgRepeatIdx := by unfold State.fetchCommand; dsimp only; split <;> simp
@[simp] theorem State.fetchCommand_hostWait (s : State) : s.fetchCommand.hostWait = s.hostWait := by unfold State.fetchCommand; dsimp only; split <;> simp
@[simp] theorem State.fetchCommand_ledOn (s : State) : s.fetchCommand.ledOn = s.ledOn := by unfold State.fetchCommand; dsimp only; split <;> simp
@[simp] theorem State.fetchCommand_ledOffDl (s : State) : s.fetchCommand.ledOffDl = s.ledOffDl := by unfold State.fetchCommand; dsimp only; split <;> simp
@[simp] theorem State.fetchCommand_ledNextDl (s : State) : s.fetchCommand.ledNextDl = s.ledNextDl := by unfold State.fetchCommand; dsimp only; split <;> simp
@[simp] theorem State.fetchCommand_colSel (s : State) : s.fetchCommand.colSel = s.colSel := by unfold State.fetchCommand; dsimp only; split <;> simp
@[simp] theorem State.fetchCommand_tx (s : State) : s.fetchCommand.tx = s.tx := by unfold State.fetchCommand; dsimp only; split <;> simp
@[simp] theorem State.fetchCommand_diagMode (s : State) : s.fetchCommand.diagMode = s.diagMode := by unfold State.fetchCommand; dsimp only; split <;> simp
@[simp] theorem State.fetchCommand_diagOut (s : State) : s.fetchCommand.diagOut = s.diagOut := by unfold State.fetchCommand; dsimp only; split <;> simp
@[simp] theorem State.fetchCommand_clockMs (s : State) : s.fetchCommand.clockMs = s.clockMs := by unfold State.fetchCommand; dsimp only; split <;> simp
@[simp] theorem State.fetchCommand_clockScript (s : State) : s.fetchCommand.clockScript = s.clockScript := by unfold State.fetchCommand; dsimp only; split <;> simp
@[simp] theorem State.fetchCommand_rowScript (s : State) : s.fetchCommand.rowScript = s.rowScript := by unfold State.fetchCommand; dsimp only; split <;> simp
@[simp] theorem State.fetchCommand_diagScript (s : State) : s.fetchCommand.diagScript = s.diagScript := by unfold State.fetchCommand; dsimp only; split <;> simp
@[simp] theorem State.fetchCommand_trace (s : State) : s.fetchCommand.trace = s.trace := by unfold State.fetchCommand; dsimp only; split <;> simp

/-! ### afterSamples -/

@[simp] theorem afterSamples_phase (cs : List (Fin 10)) (s : State) : (afterSamples cs s).phase = s.phase := by

  induction cs generalizing s with
  | nil => rfl
  | cons c cs ih => simp [afterSamples, ih]
@[simp] theorem afterSamples_ks (cs : List (Fin 10)) (s : State) : (afterSamples cs s).ks = s.ks := by

  induction cs generalizing s with
  | nil => rfl
  | cons c cs ih => simp [afterSamples, ih]
@[simp] theorem afterSamples_candPos (cs : List (Fin 10)) (s : State) : (afterSamples cs s).candPos = s.candPos := by

  induction cs generalizing s with
  | nil => rfl
  | cons c cs ih => simp [afterSamples, ih]
@[simp] theorem afterSamples_debDeadline (cs : List (Fin 10)) (s : State) : (afterSamples cs s).debDeadline = s.debDeadline := by

  induction cs generalizing s with
  | nil => rfl
  | cons c cs ih => simp [afterSamples, ih]
@[simp] theorem afterSamples_pressedPos (cs : List (Fin 10)) (s : State) : (afterSamples cs s).pressedPos = s.pressedPos := by

  induction cs generalizing s with
  | nil => rfl
  | cons c cs ih => simp [afterSamples, ih]
@[simp] theorem afterSamples_modsLive (cs : List (Fin 10)) (s : State) : (afterSamples cs s).modsLive = s.modsLive := by

  induction cs generalizing s with
  | nil => rfl
  | cons c cs ih => simp [afterSamples, ih]
@[simp] theorem afterSamples_modsSnap (cs : List (Fin 10)) (s : State) : (afterSamples cs s).modsSnap = s.modsSnap := by

  induction cs generalizing s with
  | nil => rfl
  | cons c cs ih => simp [afterSamples, ih]
@[simp] theorem afterSamples_tmDeadline (cs : List (Fin 10)) (s : State) : (afterSamples cs s).tmDeadline = s.tmDeadline := by

  induction cs generalizing s with
  | nil => rfl
  | cons c cs ih => simp [afterSamples, ih]
@[simp] theorem afterSamples_cfgDelayIdx (cs : List (Fin 10)) (s : State) : (afterSamples cs s).cfgDelayIdx = s.cfgDelayIdx := by

  induction cs generalizing s with
  | nil => rfl
  | cons c cs ih => simp [afterSamples, ih]
@[simp] theorem afterSamples_cfgRepeatIdx (cs : List (Fin 10)) (s : State) : (afterSamples cs s).cfgRepeatIdx = s.cfgRepeatIdx := by

  induction cs generalizing s with
  | nil => rfl
  | cons c cs ih => simp [afterSamples, ih]
@[simp] theorem afterSamples_hostWait (cs : List (Fin 10)) (s : State) : (afterSamples cs s).hostWait = s.hostWait := by

  induction cs generalizing s with
  | nil => rfl
  | cons c cs ih => simp [afterSamples, ih]
@[simp] theorem afterSamples_ledOn (cs : List (Fin 10)) (s : State) : (afterSamples cs s).ledOn = s.ledOn := by

  induction cs generalizing s with
  | nil => rfl
  | cons c cs ih => simp [afterSamples, ih]
@[simp] theorem afterSamples_ledOffDl (cs : List (Fin 10)) (s : State) : (afterSamples cs s).ledOffDl = s.ledOffDl := by

  induction cs generalizing s with
  | nil => rfl
  | cons c cs ih => simp [afterSamples, ih]
@[simp] theorem afterSamples_ledNextDl (cs : List (Fin 10)) (s : State) : (afterSamples cs s).ledNextDl = s.ledNextDl := by

  induction cs generalizing s with
  | nil => rfl
  | cons c cs ih => simp [afterSamples, ih]
@[simp] theorem afterSamples_tx (cs : List (Fin 10)) (s : State) : (afterSamples cs s).tx = s.tx := by

  induction cs generalizing s with
  | nil => rfl
  | cons c cs ih => simp [afterSamples, ih]
@[simp] theorem afterSamples_rx (cs : List (Fin 10)) (s : State) : (afterSamples cs s).rx = s.rx := by

  induction cs generalizing s with
  | nil => rfl
  | cons c cs ih => simp [afterSamples, ih]
@[simp] theorem afterSamples_diagMode (cs : List (Fin 10)) (s : State) : (afterSamples cs s).diagMode = s.diagMode := by

  induction cs generalizing s with
  | nil => rfl
  | cons c cs ih => simp [afterSamples, ih]
@[simp] theorem afterSamples_diagOut (cs : List (Fin 10)) (s : State) : (afterSamples cs s).diagOut = s.diagOut := by

  induction cs generalizing s with
  | nil => rfl
  | cons c cs ih => simp [afterSamples, ih]
@[simp] theorem afterSamples_clockMs (cs : List (Fin 10)) (s : State) : (afterSamples cs s).clockMs = s.clockMs := by

  induction cs generalizing s with
  | nil => rfl
  | cons c cs ih => simp [afterSamples, ih]
@[simp] theorem afterSamples_clockScript (cs : List (Fin 10)) (s : State) : (afterSamples cs s).clockScript = s.clockScript := by

  induction cs generalizing s with
  | nil => rfl
  | cons c cs ih => simp [afterSamples, ih]
@[simp] theorem afterSamples_hostScript (cs : List (Fin 10)) (s : State) : (afterSamples cs s).hostScript = s.hostScript := by

  induction cs generalizing s with
  | nil => rfl
  | cons c cs ih => simp [afterSamples, ih]
@[simp] theorem afterSamples_diagScript (cs : List (Fin 10)) (s : State) : (afterSamples cs s).diagScript = s.diagScript := by

  induction cs generalizing s with
  | nil => rfl
  | cons c cs ih => simp [afterSamples, ih]

/-! ### afterScan -/

@[simp] theorem afterScan_phase (P : Config.Params) (s : State) : (afterScan P s).phase = s.phase := by simp [afterScan]
@[simp] theorem afterScan_ks (P : Config.Params) (s : State) : (afterScan P s).ks = s.ks := by simp [afterScan]
@[simp] theorem afterScan_candPos (P : Config.Params) (s : State) : (afterScan P s).candPos = s.candPos := by simp [afterScan]
@[simp] theorem afterScan_debDeadline (P : Config.Params) (s : State) : (afterScan P s).debDeadline = s.debDeadline := by simp [afterScan]
@[simp] theorem afterScan_pressedPos (P : Config.Params) (s : State) : (afterScan P s).pressedPos = s.pressedPos := by simp [afterScan]
@[simp] theorem afterScan_modsSnap (P : Config.Params) (s : State) : (afterScan P s).modsSnap = s.modsSnap := by simp [afterScan]
@[simp] theorem afterScan_tmDeadline (P : Config.Params) (s : State) : (afterScan P s).tmDeadline = s.tmDeadline := by simp [afterScan]
@[simp] theorem afterScan_cfgDelayIdx (P : Config.Params) (s : State) : (afterScan P s).cfgDelayIdx = s.cfgDelayIdx := by simp [afterScan]
@[simp] theorem afterScan_cfgRepeatIdx (P : Config.Params) (s : State) : (afterScan P s).cfgRepeatIdx = s.cfgRepeatIdx := by simp [afterScan]
@[simp] theorem afterScan_hostWait (P : Config.Params) (s : State) : (afterScan P s).hostWait = s.hostWait := by simp [afterScan]
@[simp] theorem afterScan_ledOn (P : Config.Params) (s : State) : (afterScan P s).ledOn = s.ledOn := by simp [afterScan]
@[simp] theorem afterScan_ledOffDl (P : Config.Params) (s : State) : (afterScan P s).ledOffDl = s.ledOffDl := by simp [afterScan]
@[simp] theorem afterScan_ledNextDl (P : Config.Params) (s : State) : (afterScan P s).ledNextDl = s.ledNextDl := by simp [afterScan]
@[simp] theorem afterScan_tx (P : Config.Params) (s : State) : (afterScan P s).tx = s.tx := by simp [afterScan]
@[simp] theorem afterScan_rx (P : Config.Params) (s : State) : (afterScan P s).rx = s.rx := by simp [afterScan]
@[simp] theorem afterScan_diagMode (P : Config.Params) (s : State) : (afterScan P s).diagMode = s.diagMode := by simp [afterScan]
@[simp] theorem afterScan_diagOut (P : Config.Params) (s : State) : (afterScan P s).diagOut = s.diagOut := by simp [afterScan]
@[simp] theorem afterScan_clockMs (P : Config.Params) (s : State) : (afterScan P s).clockMs = s.clockMs := by simp [afterScan]
@[simp] theorem afterScan_clockScript (P : Config.Params) (s : State) : (afterScan P s).clockScript = s.clockScript := by simp [afterScan]
@[simp] theorem afterScan_hostScript (P : Config.Params) (s : State) : (afterScan P s).hostScript = s.hostScript := by simp [afterScan]
@[simp] theorem afterScan_diagScript (P : Config.Params) (s : State) : (afterScan P s).diagScript = s.diagScript := by simp [afterScan]

/-! ### ledRequest -/

@[simp] theorem ledRequest_phase (P : Config.Params) (t : Time) (s : State) : (ledRequest P t s).phase = s.phase := by unfold ledRequest; split <;> rfl
@[simp] theorem ledRequest_ks (P : Config.Params) (t : Time) (s : State) : (ledRequest P t s).ks = s.ks := by unfold ledRequest; split <;> rfl
@[simp] theorem ledRequest_candPos (P : Config.Params) (t : Time) (s : State) : (ledRequest P t s).candPos = s.candPos := by unfold ledRequest; split <;> rfl
@[simp] theorem ledRequest_debDeadline (P : Config.Params) (t : Time) (s : State) : (ledRequest P t s).debDeadline = s.debDeadline := by unfold ledRequest; split <;> rfl
@[simp] theorem ledRequest_pressedPos (P : Config.Params) (t : Time) (s : State) : (ledRequest P t s).pressedPos = s.pressedPos := by unfold ledRequest; split <;> rfl
@[simp] theorem ledRequest_modsLive (P : Config.Params) (t : Time) (s : State) : (ledRequest P t s).modsLive = s.modsLive := by unfold ledRequest; split <;> rfl
@[simp] theorem ledRequest_modsSnap (P : Config.Params) (t : Time) (s : State) : (ledRequest P t s).modsSnap = s.modsSnap := by unfold ledRequest; split <;> rfl
@[simp] theorem ledRequest_tmDeadline (P : Config.Params) (t : Time) (s : State) : (ledRequest P t s).tmDeadline = s.tmDeadline := by unfold ledRequest; split <;> rfl
@[simp] theorem ledRequest_cfgDelayIdx (P : Config.Params) (t : Time) (s : State) : (ledRequest P t s).cfgDelayIdx = s.cfgDelayIdx := by unfold ledRequest; split <;> rfl
@[simp] theorem ledRequest_cfgRepeatIdx (P : Config.Params) (t : Time) (s : State) : (ledRequest P t s).cfgRepeatIdx = s.cfgRepeatIdx := by unfold ledRequest; split <;> rfl
@[simp] theorem ledRequest_hostWait (P : Config.Params) (t : Time) (s : State) : (ledRequest P t s).hostWait = s.hostWait := by unfold ledRequest; split <;> rfl
@[simp] theorem ledRequest_colSel (P : Config.Params) (t : Time) (s : State) : (ledRequest P t s).colSel = s.colSel := by unfold ledRequest; split <;> rfl
@[simp] theorem ledRequest_tx (P : Config.Params) (t : Time) (s : State) : (ledRequest P t s).tx = s.tx := by unfold ledRequest; split <;> rfl
@[simp] theorem ledRequest_rx (P : Config.Params) (t : Time) (s : State) : (ledRequest P t s).rx = s.rx := by unfold ledRequest; split <;> rfl
@[simp] theorem ledRequest_diagMode (P : Config.Params) (t : Time) (s : State) : (ledRequest P t s).diagMode = s.diagMode := by unfold ledRequest; split <;> rfl
@[simp] theorem ledRequest_diagOut (P : Config.Params) (t : Time) (s : State) : (ledRequest P t s).diagOut = s.diagOut := by unfold ledRequest; split <;> rfl
@[simp] theorem ledRequest_clockMs (P : Config.Params) (t : Time) (s : State) : (ledRequest P t s).clockMs = s.clockMs := by unfold ledRequest; split <;> rfl
@[simp] theorem ledRequest_clockScript (P : Config.Params) (t : Time) (s : State) : (ledRequest P t s).clockScript = s.clockScript := by unfold ledRequest; split <;> rfl
@[simp] theorem ledRequest_rowScript (P : Config.Params) (t : Time) (s : State) : (ledRequest P t s).rowScript = s.rowScript := by unfold ledRequest; split <;> rfl
@[simp] theorem ledRequest_hostScript (P : Config.Params) (t : Time) (s : State) : (ledRequest P t s).hostScript = s.hostScript := by unfold ledRequest; split <;> rfl
@[simp] theorem ledRequest_diagScript (P : Config.Params) (t : Time) (s : State) : (ledRequest P t s).diagScript = s.diagScript := by unfold ledRequest; split <;> rfl
@[simp] theorem ledRequest_draws (P : Config.Params) (t : Time) (s : State) : (ledRequest P t s).draws = s.draws := by unfold ledRequest; split <;> rfl

/-! ### ledDecay -/

@[simp] theorem ledDecay_phase (t : Time) (s : State) : (ledDecay t s).phase = s.phase := by unfold ledDecay; split <;> rfl
@[simp] theorem ledDecay_ks (t : Time) (s : State) : (ledDecay t s).ks = s.ks := by unfold ledDecay; split <;> rfl
@[simp] theorem ledDecay_candPos (t : Time) (s : State) : (ledDecay t s).candPos = s.candPos := by unfold ledDecay; split <;> rfl
@[simp] theorem ledDecay_debDeadline (t : Time) (s : State) : (ledDecay t s).debDeadline = s.debDeadline := by unfold ledDecay; split <;> rfl
@[simp] theorem ledDecay_pressedPos (t : Time) (s : State) : (ledDecay t s).pressedPos = s.pressedPos := by unfold ledDecay; split <;> rfl
@[simp] theorem ledDecay_modsLive (t : Time) (s : State) : (ledDecay t s).modsLive = s.modsLive := by unfold ledDecay; split <;> rfl
@[simp] theorem ledDecay_modsSnap (t : Time) (s : State) : (ledDecay t s).modsSnap = s.modsSnap := by unfold ledDecay; split <;> rfl
@[simp] theorem ledDecay_tmDeadline (t : Time) (s : State) : (ledDecay t s).tmDeadline = s.tmDeadline := by unfold ledDecay; split <;> rfl
@[simp] theorem ledDecay_cfgDelayIdx (t : Time) (s : State) : (ledDecay t s).cfgDelayIdx = s.cfgDelayIdx := by unfold ledDecay; split <;> rfl
@[simp] theorem ledDecay_cfgRepeatIdx (t : Time) (s : State) : (ledDecay t s).cfgRepeatIdx = s.cfgRepeatIdx := by unfold ledDecay; split <;> rfl
@[simp] theorem ledDecay_hostWait (t : Time) (s : State) : (ledDecay t s).hostWait = s.hostWait := by unfold ledDecay; split <;> rfl
@[simp] theorem ledDecay_ledOffDl (t : Time) (s : State) : (ledDecay t s).ledOffDl = s.ledOffDl := by unfold ledDecay; split <;> rfl
@[simp] theorem ledDecay_ledNextDl (t : Time) (s : State) : (ledDecay t s).ledNextDl = s.ledNextDl := by unfold ledDecay; split <;> rfl
@[simp] theorem ledDecay_colSel (t : Time) (s : State) : (ledDecay t s).colSel = s.colSel := by unfold ledDecay; split <;> rfl
@[simp] theorem ledDecay_tx (t : Time) (s : State) : (ledDecay t s).tx = s.tx := by unfold ledDecay; split <;> rfl
@[simp] theorem ledDecay_rx (t : Time) (s : State) : (ledDecay t s).rx = s.rx := by unfold ledDecay; split <;> rfl
@[simp] theorem ledDecay_diagMode (t : Time) (s : State) : (ledDecay t s).diagMode = s.diagMode := by unfold ledDecay; split <;> rfl
@[simp] theorem ledDecay_diagOut (t : Time) (s : State) : (ledDecay t s).diagOut = s.diagOut := by unfold ledDecay; split <;> rfl
@[simp] theorem ledDecay_clockMs (t : Time) (s : State) : (ledDecay t s).clockMs = s.clockMs := by unfold ledDecay; split <;> rfl
@[simp] theorem ledDecay_clockScript (t : Time) (s : State) : (ledDecay t s).clockScript = s.clockScript := by unfold ledDecay; split <;> rfl
@[simp] theorem ledDecay_rowScript (t : Time) (s : State) : (ledDecay t s).rowScript = s.rowScript := by unfold ledDecay; split <;> rfl
@[simp] theorem ledDecay_hostScript (t : Time) (s : State) : (ledDecay t s).hostScript = s.hostScript := by unfold ledDecay; split <;> rfl
@[simp] theorem ledDecay_diagScript (t : Time) (s : State) : (ledDecay t s).diagScript = s.diagScript := by unfold ledDecay; split <;> rfl
@[simp] theorem ledDecay_draws (t : Time) (s : State) : (ledDecay t s).draws = s.draws := by unfold ledDecay; split <;> rfl

end Sys2Proof.Machine
end

