-- ==== Sys2Proof/Laws/Ops.lean ====
section
/-! SUPPORT. One lemma per shared operation that says once everything it can do. -/

namespace Sys2Proof.Machine

/-! ### Sequencing -/

theorem andThen_eq_next {o : Result} {f : State → Result} {t : State} :
    andThen o f = .next t ↔ ∃ s, o = .next s ∧ f s = .next t := by
  cases o <;> simp [andThen]

theorem onNext_eq_next {o : Result} {f : State → State} {t : State} :
    onNext o f = .next t ↔ ∃ s, o = .next s ∧ t = f s := by
  cases o <;> simp [onNext, andThen, eq_comm]

@[simp] theorem andThen_next (s : State) (f : State → Result) : andThen (.next s) f = f s := rfl
@[simp] theorem onNext_next (s : State) (f : State → State) : onNext (.next s) f = .next (f s) := rfl

theorem withBytes_eq_next {bs : Except Fault (List Byte)} {f : List Byte → State} {t : State} :
    withBytes bs f = .next t ↔ ∃ b, bs = .ok b ∧ t = f b := by
  cases bs <;> simp [withBytes, eq_comm]

theorem withWord_eq_ok {w : Except Fault RomWord} {f : RomWord → List Byte} {b : List Byte} :
    withWord w f = .ok b ↔ ∃ e, w = .ok e ∧ b = f e := by
  cases w <;> simp [withWord, eq_comm]

/-! ### The transport's host side -/

theorem State.awaitBytes_of_le {s : State} {n : Nat} (h : n ≤ s.rx.length) : s.awaitBytes n = s := by
  simp [State.awaitBytes, Nat.not_lt.mpr h]

theorem State.awaitBytes_of_lt {s : State} {n : Nat} (h : s.rx.length < n) : s.awaitBytes n = s.askHost := by
  simp [State.awaitBytes, h]

/-- What a consultation of the transport can do to RX: nothing, or one byte at its end. -/
theorem State.awaitBytes_rx (s : State) (n : Nat) :
    (s.awaitBytes n).rx = s.rx ∨ (s.rx.length < n ∧ ∃ b, s.nextOffer = some b ∧ (s.awaitBytes n).rx = s.rx ++ [b]) := by
  by_cases h : s.rx.length < n
  · rw [State.awaitBytes_of_lt h]
    cases ho : s.nextOffer <;> simp [ho, h]
  · rw [State.awaitBytes_of_le (Nat.not_lt.mp h)]
    exact .inl rfl

/-- A consultation of the transport changes RX and the host agent's answers only. -/
theorem State.awaitBytes_frame (s : State) (n : Nat) :
    s.awaitBytes n = { s with
      rx := (s.awaitBytes n).rx, hostScript := (s.awaitBytes n).hostScript, draws := (s.awaitBytes n).draws } := by
  unfold State.awaitBytes; split <;> rfl
/-- Fetching a command changes RX and the host agent's answers only. -/
theorem State.fetchCommand_frame (s : State) :
    s.fetchCommand = { s with
      rx := s.fetchCommand.rx, hostScript := s.fetchCommand.hostScript, draws := s.fetchCommand.draws } := by
  simp only [State.fetchCommand]; split
  · exact s.awaitBytes_frame 1
  · rw [State.awaitBytes_frame (s.awaitBytes 1), s.awaitBytes_frame 1]

/-- A CMDP command has two bytes and every other command one (R102). -/
theorem commandLength_pos (b : Byte) : 1 ≤ commandLength b := by
  unfold commandLength; repeat' split
  all_goals omega

/-- When RX already holds a whole command, fetching asks the host for nothing. -/
theorem State.fetchCommand_of_whole {s : State} {b : Byte} {rest : List Byte} (h : s.rx = b :: rest)
    (hl : commandLength b ≤ s.rx.length) : s.fetchCommand = s := by
  have h1 : s.awaitBytes 1 = s := State.awaitBytes_of_le (by simp [h])
  simp only [State.fetchCommand, h1]
  rw [h]
  exact State.awaitBytes_of_le hl

/-- When RX is empty and the host offers nothing, fetching only takes the host's answer. -/
theorem State.fetchCommand_of_nothing {s : State} (h : s.rx = []) (ho : s.nextOffer = none) :
    s.fetchCommand = s.askHost := by
  have h1 : s.awaitBytes 1 = s.askHost := State.awaitBytes_of_lt (by simp [h])
  simp [State.fetchCommand, h1, h, ho]

/-! ### Time -/

theorem timeReached_iff {now d : Time} : timeReached now d = true ↔ d.toNat ≤ now.toNat := by simp [timeReached]

theorem timeReached_eq_false {now d : Time} : timeReached now d = false ↔ now.toNat < d.toNat := by simp [timeReached]

/-- A deadline that does not wrap is the sum (R11). -/
theorem timeAdd_toNat_of_lt {a b : Time} (h : a.toNat + b.toNat < 2 ^ 32) :
    (timeAdd a b).toNat = a.toNat + b.toNat := by
  simp only [timeAdd, BitVec.toNat_add]; exact Nat.mod_eq_of_lt h

/-! ### The LED indicator -/

/-- LedRequest is taken, and then lights the LED, or dropped (R290). -/
theorem ledRequest_cases (P : Config.Params) (t : Time) (s : State) :
    (timeReached t s.ledNextDl = true ∧
      ledRequest P t s = { s with
        ledOn := true, ledOffDl := timeAdd t P.ledOnMs, ledNextDl := timeAdd t P.ledCooldownMs,
        trace := s.trace ++ [.ledN false] }) ∨
    (timeReached t s.ledNextDl = false ∧ ledRequest P t s = s) := by
  cases h : timeReached t s.ledNextDl <;> simp [ledRequest, h]

/-- LedDecay turns a lit LED off at its deadline, or does nothing (R291). -/
theorem ledDecay_cases (t : Time) (s : State) :
    (s.ledOn = true ∧ timeReached t s.ledOffDl = true ∧
      ledDecay t s = { s with ledOn := false, trace := s.trace ++ [.ledN true] }) ∨
    ((s.ledOn = false ∨ timeReached t s.ledOffDl = false) ∧ ledDecay t s = s) := by
  cases h : s.ledOn <;> cases h' : timeReached t s.ledOffDl <;> simp [ledDecay, h, h']

/-! ### ROM lookup -/

/-- LOOKUP answers a word exactly for a position 0 to 79 that is no modifier, from the table LeftShift selects. -/
theorem lookup_eq_ok {P : Config.Params} {p : Pos} {m : Mask} {e : RomWord} :
    lookup P p m = .ok e ↔ ∃ h : p.toNat < 80, isModifierPos P p = false ∧
      e = (if maskLShift m then P.romS ⟨p.toNat, h⟩ else P.romU ⟨p.toNat, h⟩) := by
  by_cases h : p.toNat < 80 <;> cases hm : isModifierPos P p <;> cases hl : maskLShift m <;>
    simp [lookup, romRead, h, hm, hl, eq_comm]

/-- A tracked position is looked up without a fault. -/
theorem lookup_tracked {P : Config.Params} {p : Pos} (m : Mask) (h : keyTracked P p = true) :
    ∃ e, lookup P p m = .ok e := by
  simp only [keyTracked, Bool.and_eq_true, decide_eq_true_eq, Bool.not_eq_true'] at h
  exact ⟨_, lookup_eq_ok.mpr ⟨h.1, h.2, rfl⟩⟩

end Sys2Proof.Machine
end

