-- ==== Sys2Proof/Laws/Scanner.lean ====
section
/-! SUPPORT. What SCAN can do: its samples, the masking of the modifiers, and the position it reports. -/

namespace Sys2Proof.Machine

/-! ### Samples -/

/-- One sample for each column, in the order given (R168). -/
@[simp] theorem samplesOf_columns (cs : List (Fin 10)) (s : State) : (samplesOf cs s).map Prod.fst = cs := by
  induction cs generalizing s with
  | nil => rfl
  | cons c cs ih => simp [samplesOf, ih]

/-- What the columns sample, and what sampling takes, depends on the key-matrix agent alone: its script and the draw
counter. -/
theorem samplesOf_congr {s s' : State} (hr : s.rowScript = s'.rowScript) (hd : s.draws = s'.draws)
    (cs : List (Fin 10)) :
    samplesOf cs s = samplesOf cs s' ∧ (afterSamples cs s).rowScript = (afterSamples cs s').rowScript ∧
      (afterSamples cs s).draws = (afterSamples cs s').draws := by
  induction cs generalizing s s' with
  | nil => exact ⟨rfl, hr, hd⟩
  | cons c cs ih =>
    have hn : (s.select c).nextRow = (s'.select c).nextRow := by simp [State.nextRow, hr, hd]
    have hi := @ih (s.select c).sampleRow (s'.select c).sampleRow (by simp [hr]) (by simp [hr, hd])
    simp [samplesOf, afterSamples, hn, hi]

theorem scanKey_congr {s s' : State} (P : Config.Params) (hr : s.rowScript = s'.rowScript) (hd : s.draws = s'.draws) :
    scanKey P s = scanKey P s' := by simp only [scanKey, (samplesOf_congr hr hd scanOrder).1]

theorem scanMask_congr {s s' : State} (P : Config.Params) (hr : s.rowScript = s'.rowScript) (hd : s.draws = s'.draws) :
    scanMask P s = scanMask P s' := by simp only [scanMask, (samplesOf_congr hr hd scanOrder).1]

/-- What sampling adds to the observation: each column driven, settled, sampled (R161, R162, R163). -/
theorem afterSamples_trace (cs : List (Fin 10)) (s : State) :
    (afterSamples cs s).trace = s.trace ++ (samplesOf cs s).flatMap fun x =>
      [.colSel (columnCode (some x.1)), .settleWait, .rowSample x.2] := by
  induction cs generalizing s with
  | nil => simp [afterSamples, samplesOf]
  | cons c cs ih => simp [afterSamples, samplesOf, ih, State.nextRow, List.append_assoc]

/-- Sampling changes COL_SEL, the observation and the key-matrix agent's answers only, and takes one answer a column. -/
theorem afterSamples_frame (cs : List (Fin 10)) (s : State) :
    afterSamples cs s = { s with
      colSel := (afterSamples cs s).colSel
      trace := (afterSamples cs s).trace
      rowScript := s.rowScript.drop cs.length
      draws := s.draws + (cs.length - s.rowScript.length) } := by
  induction cs generalizing s with
  | nil => simp [afterSamples]
  | cons c cs ih =>
    have h := ih (s.select c).sampleRow
    cases hr : s.rowScript with
    | nil =>
      simp [State.sampleRow, State.select, State.drive, State.observe, hr] at h
      simp only [afterSamples]
      simp [State.sampleRow, State.select, State.drive, State.observe, hr]
      rw [h]; simp; omega
    | cons r rs =>
      simp [State.sampleRow, State.select, State.drive, State.observe, hr] at h
      simp only [afterSamples]
      simp [State.sampleRow, State.select, State.drive, State.observe, hr]
      rw [h]

/-- What sampling reads: the script's next answers, and then opaque draws. -/
theorem samplesOf_rows (cs : List (Fin 10)) (s : State) :
    (samplesOf cs s).map Prod.snd = s.rowScript.take cs.length ++
      (List.range (cs.length - s.rowScript.length)).map fun k => Config.rowDraw (s.draws + k) := by
  induction cs generalizing s with
  | nil => simp [samplesOf]
  | cons c cs ih =>
    cases hr : s.rowScript with
    | nil => simp [samplesOf, ih, hr, State.nextRow, List.range_succ_eq_map, Function.comp_def, Nat.add_assoc, Nat.add_comm 1]
    | cons r rs => simp [samplesOf, ih, hr, State.nextRow]

theorem sentBytes_append (a b : List PortEvent) : sentBytes (a ++ b) = sentBytes a ++ sentBytes b := by
  induction a with
  | nil => rfl
  | cons e es ih => cases e <;> simp [sentBytes, ih]

@[simp] theorem sentBytes_map_tx (bs : List Byte) : sentBytes (bs.map .tx) = bs := by
  induction bs with
  | nil => rfl
  | cons b bs ih => simp [sentBytes, ih]

/-- Sampling sends nothing. -/
theorem sentBytes_afterSamples (cs : List (Fin 10)) (s : State) :
    sentBytes (afterSamples cs s).trace = sentBytes s.trace := by
  induction cs generalizing s with
  | nil => rfl
  | cons c cs ih => simp [afterSamples, ih, sentBytes_append, sentBytes]

/-- SCAN leaves COL_SEL idle (R167). -/
@[simp] theorem afterScan_colSel (P : Config.Params) (s : State) : (afterScan P s).colSel = Config.colIdle := rfl

/-- SCAN writes its mask to MODS_LIVE (R166). -/
@[simp] theorem afterScan_modsLive (P : Config.Params) (s : State) : (afterScan P s).modsLive = scanMask P s := rfl

theorem sentBytes_afterScan (P : Config.Params) (s : State) :
    sentBytes (afterScan P s).trace = sentBytes s.trace := by
  simp [afterScan, sentBytes_append, sentBytes, sentBytes_afterSamples]

/-! ### Positions -/

theorem posOf_toNat (c : Fin 10) (r : Fin 8) : (posOf c r).toNat = 8 * c.val + r.val := by
  simp only [posOf, BitVec.toNat_ofNat]; omega

theorem posOf_inj {c c' : Fin 10} {r r' : Fin 8} : posOf c r = posOf c' r' ↔ c = c' ∧ r = r' := by
  constructor
  · intro h
    have := congrArg BitVec.toNat h
    rw [posOf_toNat, posOf_toNat] at this
    constructor <;> apply Fin.ext <;> omega
  · rintro ⟨rfl, rfl⟩; rfl

theorem posOf_ne_noKey (c : Fin 10) (r : Fin 8) : posOf c r ≠ Config.noKey := by
  intro h
  have := congrArg BitVec.toNat h
  rw [posOf_toNat] at this
  have : Config.noKey.toNat = 255 := rfl
  omega

/-- A key's position is a modifier position exactly when the key is a modifier. -/
theorem isModifierPos_posOf (P : Config.Params) (c : Fin 10) (r : Fin 8) :
    isModifierPos P (posOf c r) = true ↔ isModifierKey P c r := by
  have key : ∀ k : Config.KeyAt, posOf c r = keyPos k ↔ (⟨c, r⟩ : Config.KeyAt) = k := by
    rintro ⟨c', r'⟩
    simp [keyPos, posOf_inj]
  simp [isModifierPos, isModifierKey, key, or_assoc]

/-! ### Rows -/

theorem rowPressed_eq_true {rows : Byte} {r : Fin 8} : rowPressed rows r = true ↔ rows.getLsbD r.val = false := by
  simp [rowPressed]

/-- Masking a modifier's row takes exactly that row out. -/
theorem rowPressed_maskModifier (k : Config.KeyAt) (c : Fin 10) (rows : Byte) (r : Fin 8) :
    rowPressed (maskModifier k c rows) r = true ↔ rowPressed rows r = true ∧ (⟨c, r⟩ : Config.KeyAt) ≠ k := by
  obtain ⟨kc, kr⟩ := k
  by_cases hc : kc = c
  · subst hc
    simp [rowPressed, maskModifier]
    intro _
    omega
  · have : ¬ c = kc := fun h => hc h.symm
    simp [rowPressed, maskModifier, hc, this]

/-- The rows left after masking are the pressed rows of non-modifier keys (R164). -/
theorem rowPressed_maskModifiers (P : Config.Params) (c : Fin 10) (rows : Byte) (r : Fin 8) :
    rowPressed (maskModifiers P c rows) r = true ↔ rowPressed rows r = true ∧ ¬ isModifierKey P c r := by
  simp [maskModifiers, rowPressed_maskModifier, isModifierKey, and_assoc]

/-- The first pressed row is pressed. -/
theorem firstRow_pressed {rows : Byte} {r : Fin 8} (h : firstRow rows = some r) : rowPressed rows r = true :=
  List.find?_some h

/-- The first pressed row is the least pressed row (R165). -/
theorem firstRow_least {rows : Byte} {r r' : Fin 8} (h : firstRow rows = some r) (h' : rowPressed rows r' = true) :
    r ≤ r' := by
  obtain ⟨_, before, after, hl, hb⟩ := List.find?_eq_some_iff_append.mp h
  have all : ∀ r : Fin 8, r ∈ [(0 : Fin 8), 1, 2, 3, 4, 5, 6, 7] := by decide
  have sorted : [(0 : Fin 8), 1, 2, 3, 4, 5, 6, 7].Pairwise (· < ·) := by decide
  have hm := all r'
  rw [hl] at hm sorted
  rcases List.mem_append.mp hm with hm | hm
  · have := hb r' hm
    simp [h'] at this
  · rcases List.mem_cons.mp hm with rfl | hm
    · exact le_rfl
    · exact le_of_lt ((List.pairwise_cons.mp (List.pairwise_append.mp sorted).2.1).1 r' hm)

/-- No row is found exactly when no row is pressed. -/
theorem firstRow_none {rows : Byte} : firstRow rows = none ↔ ∀ r : Fin 8, rowPressed rows r = false := by
  have all : ∀ r : Fin 8, r ∈ [(0 : Fin 8), 1, 2, 3, 4, 5, 6, 7] := by decide
  simp only [firstRow, List.find?_eq_none]
  exact ⟨fun h r => by simpa using h r (all r), fun h r _ => by simp [h r]⟩

/-! ### The reported position -/

/-- SCAN reports NO_KEY or a position that may be tracked: 0 to 79 and no modifier (R160, R164). -/
theorem scanPos_tracked (P : Config.Params) (xs : List Sample) :
    scanPos P xs = Config.noKey ∨ keyTracked P (scanPos P xs) = true := by
  induction xs with
  | nil => exact .inl rfl
  | cons x xs ih =>
    obtain ⟨c, rows⟩ := x
    cases h : firstRow (maskModifiers P c rows) with
    | none => simpa [scanPos, h] using ih
    | some r =>
      right
      have hm := ((rowPressed_maskModifiers P c rows r).mp (firstRow_pressed h)).2
      rw [← isModifierPos_posOf] at hm
      have hl : (posOf c r).toNat < 80 := by rw [posOf_toNat]; omega
      simpa [scanPos, h, keyTracked, hm] using hl

theorem scanKey_tracked (P : Config.Params) (s : State) (h : scanKey P s ≠ Config.noKey) :
    keyTracked P (scanKey P s) = true :=
  (scanPos_tracked P _).resolve_left h

end Sys2Proof.Machine
end

