-- ==== Sys2Proof/Laws/Host.lean ====
section
/-! SUPPORT. Everything a host command and the host step can do, once (spec/45_host_commands.md R250 to R272). -/

namespace Sys2Proof.Machine

/-- What a host command changes: TX and the observation by the same replies, the two configuration fields, HOST_WAIT. -/
def replied (s t : State) : Prop :=
  ∃ (bs : List Byte) (es : List PortEvent) (d : BitVec 2) (r : BitVec 5) (w : HostWait),
    t = { s with tx := s.tx ++ bs, trace := s.trace ++ es, cfgDelayIdx := d, cfgRepeatIdx := r, hostWait := w } ∧
    sentBytes es = bs ∧ bs.length ≤ 3

/-- Every command whose meaning goes on only replies, configures and ends a wait, and the commands of one byte do not
touch HOST_WAIT. -/
theorem exec_cases {i : Instr} {s t : State} (h : exec i s = .next t) :
    replied s t ∧ (t.hostWait = .none ∨ t.hostWait = s.hostWait) := by
  have one : ∀ (e : PortEvent) (b : Byte), sentBytes [e] = [] →
      replied s ((s.observe [e]).emit [b]) := fun e b he =>
    ⟨[b], [e, .tx b], s.cfgDelayIdx, s.cfgRepeatIdx, s.hostWait, by simp [State.emit, State.observe],
      by cases e <;> simp_all [sentBytes], by simp⟩
  cases i <;> simp only [exec] at h
  case setleds p =>
    cases h
    refine ⟨⟨[Config.ack, Config.ack], [.replyWait, .tx Config.ack, .replyWait, .tx Config.ack],
      s.cfgDelayIdx, s.cfgRepeatIdx, .none, ?_, rfl, by simp⟩, .inl rfl⟩
    simp [State.endWait, State.reply, State.emit, State.observe, beginParameter]
  case scanset p =>
    by_cases hp : p = 0
    · simp only [execScanset, completeScanSet, hp, if_true] at h
      cases h
      refine ⟨⟨[Config.ack, Config.ack, Config.scansetReply],
        [.replyWait, .tx Config.ack, .replyWait, .tx Config.ack, .replyWait, .tx Config.scansetReply],
        s.cfgDelayIdx, s.cfgRepeatIdx, .none, ?_, rfl, by simp⟩, .inl rfl⟩
      simp [State.endWait, State.reply, State.emit, State.observe, beginParameter]
    · simp only [execScanset, completeScanSet, hp, if_false] at h
      cases h
      refine ⟨⟨[Config.ack, Config.ack], [.replyWait, .tx Config.ack, .replyWait, .tx Config.ack],
        s.cfgDelayIdx, s.cfgRepeatIdx, .none, ?_, rfl, by simp⟩, .inl rfl⟩
      simp [State.endWait, State.reply, State.emit, State.observe, beginParameter]
  case typematic rsvd delay rate =>
    simp only [execTypematic, completeTypematic, Config.policies, reduceCtorEq, and_false, if_false] at h
    cases h
    refine ⟨⟨[Config.ack], [.replyWait, .tx Config.ack], delay, rate, .none, ?_, rfl, by simp⟩, .inl rfl⟩
    simp [State.reply, State.emit, State.observe, beginParameter]
  case echo => cases h; exact ⟨one .replyWait _ rfl, .inr rfl⟩
  case enable => cases h; exact ⟨one .replyWait _ rfl, .inr rfl⟩
  case disable => cases h; exact ⟨one .replyWait _ rfl, .inr rfl⟩
  case readid =>
    cases h
    refine ⟨⟨[Config.kbdId, Config.kbdId], [.replyWait, .tx Config.kbdId, .replyWait, .tx Config.kbdId],
      s.cfgDelayIdx, s.cfgRepeatIdx, s.hostWait, ?_, rfl, by simp⟩, .inr rfl⟩
    simp [State.reply, State.emit, State.observe]
  case reset =>
    cases h
    refine ⟨⟨[Config.ack, Config.batOk], [.replyWait, .tx Config.ack, .resetWait, .tx Config.batOk],
      s.cfgDelayIdx, s.cfgRepeatIdx, s.hostWait, ?_, rfl, by simp⟩, .inr rfl⟩
    simp [State.reply, State.replyAfterReset, State.emit, State.observe]
  case setdefault =>
    cases h
    exact ⟨⟨[], [], Config.defaultDelayIdx, Config.defaultRepeatIdx, s.hostWait, by simp, rfl, by simp⟩, .inr rfl⟩
  all_goals
    cases h
    exact ⟨⟨[], [], s.cfgDelayIdx, s.cfgRepeatIdx, s.hostWait, by simp, rfl, by simp⟩, .inr rfl⟩

/-- Every command goes on, from every state: F3_BIT7 is IGNORE. -/
theorem exec_goes_on (i : Instr) (s : State) : ∃ t, exec i s = .next t := by
  cases i
  case scanset p =>
    simp only [exec, execScanset, completeScanSet]; split <;> exact ⟨_, rfl⟩
  case typematic rsvd delay rate => simp [exec, execTypematic, completeTypematic, Config.policies]
  all_goals exact ⟨_, rfl⟩

/-- A completion only replies, configures and ends the wait. -/
theorem completeParameter_cases {w : HostWait} {p : Byte} {s t : State} (hw : w ≠ .none)
    (h : completeParameter w p s = .next t) : replied s t ∧ t.hostWait = .none := by
  cases w <;> simp only [completeParameter] at h
  · exact absurd rfl hw
  · cases h
    refine ⟨⟨[Config.ack], [.replyWait, .tx Config.ack], s.cfgDelayIdx, s.cfgRepeatIdx, .none, ?_, rfl, by simp⟩, rfl⟩
    simp [State.endWait, State.reply, State.emit, State.observe]
  · by_cases hp : p = 0
    · simp only [completeScanSet, hp, if_true] at h
      cases h
      refine ⟨⟨[Config.ack, Config.scansetReply], [.replyWait, .tx Config.ack, .replyWait, .tx Config.scansetReply],
        s.cfgDelayIdx, s.cfgRepeatIdx, .none, ?_, rfl, by simp⟩, rfl⟩
      simp [State.endWait, State.reply, State.emit, State.observe]
    · simp only [completeScanSet, hp, if_false] at h
      cases h
      refine ⟨⟨[Config.ack], [.replyWait, .tx Config.ack], s.cfgDelayIdx, s.cfgRepeatIdx, .none, ?_, rfl, by simp⟩, rfl⟩
      simp [State.endWait, State.reply, State.emit, State.observe]
  · simp only [completeTypematic, Config.policies, reduceCtorEq, and_false, if_false] at h
    cases h
    exact ⟨⟨[], [], paramDelay p, paramRate p, .none, by simp, rfl, by simp⟩, rfl⟩

/-- A completion goes on, from every state: F3_BIT7 is IGNORE. -/
theorem completeParameter_goes_on (w : HostWait) (p : Byte) (s : State) :
    ∃ t, completeParameter w p s = .next t := by
  cases w
  case wScanset => simp only [completeParameter, completeScanSet]; split <;> exact ⟨_, rfl⟩
  case wTypematic => simp [completeParameter, completeTypematic, Config.policies]
  all_goals exact ⟨_, rfl⟩

/-! ### The host step -/

/-- The moves of the host step (R250, R47). -/
inductive HostMove (s : State) : State → Prop where
  /-- A whole command is on RX and runs. -/
  | run (i : Instr) (rest : List Byte) (u : State) : decode s.fetchCommand.rx = .ok (i, rest) →
      exec i (s.fetchCommand.takeRx rest) = .next u → HostMove s (u.setPhase .diag)
  /-- There is no byte. -/
  | nothing : s.fetchCommand.rx = [] → HostMove s (s.fetchCommand.setPhase .diag)
  /-- A CMDP command byte is there and its parameter is not: the first half, and the hold. -/
  | hold (b : Byte) : s.fetchCommand.rx = [b] → b = 0xED ∨ b = 0xF0 ∨ b = 0xF3 →
      HostMove s ((beginParameter (waitOf b) (s.fetchCommand.takeRx [])).setPhase .host)

/-- If the host step answers a next state, it is one of the moves. -/
theorem hostStep_cases {s t : State} (h : hostStep s = .next t) : HostMove s t := by
  simp only [hostStep] at h
  split at h
  · next i rest hd =>
    obtain ⟨u, hu, rfl⟩ := onNext_eq_next.mp h
    exact .run i rest u hd hu
  · next hd => cases h; exact .nothing (decode_noByte hd)
  · next b hd => cases h; exact .hold b (decode_awaits hd).1 (decode_awaits hd).2

theorem hostStep_goes_on (s : State) : ∃ t, hostStep s = .next t := by
  simp only [hostStep]
  split
  · next i rest _ =>
    obtain ⟨u, hu⟩ := exec_goes_on i (s.fetchCommand.takeRx rest)
    exact ⟨_, by rw [hu]; rfl⟩
  · exact ⟨_, rfl⟩
  · exact ⟨_, rfl⟩

/-- If the parameter step answers a next state, either nothing came and nothing happens, or the next byte completes the
command (R47, R272, R303). -/
theorem parameterStep_cases {s t : State} (h : parameterStep s = .next t) :
    ((s.awaitBytes 1).rx = [] ∧ t = s.awaitBytes 1) ∨
    ∃ p rest u, (s.awaitBytes 1).rx = p :: rest ∧
      completeParameter s.hostWait p ((s.awaitBytes 1).takeRx rest) = .next u ∧ t = u.setPhase .diag := by
  simp only [parameterStep] at h
  split at h
  · next hr => cases h; exact .inl ⟨hr, rfl⟩
  · next p rest hr =>
    obtain ⟨u, hu, rfl⟩ := onNext_eq_next.mp h
    exact .inr ⟨p, rest, u, hr, hu, rfl⟩

theorem parameterStep_goes_on (s : State) : ∃ t, parameterStep s = .next t := by
  simp only [parameterStep]
  split
  · exact ⟨_, rfl⟩
  · next p rest _ =>
    obtain ⟨u, hu⟩ := completeParameter_goes_on s.hostWait p ((s.awaitBytes 1).takeRx rest)
    exact ⟨_, by rw [hu]; rfl⟩

end Sys2Proof.Machine
end

