-- ==== Sys2Proof/Laws/Keyboard.lean ====
section
/-! SUPPORT. Everything the keyboard step can do, once (spec/42_debounce_typematic.md R181 to R187). -/

namespace Sys2Proof.Machine

/-- The moves of the keyboard step's arms at T_kbd = `t`, from `s`. -/
inductive KbdMove (P : Config.Params) (pol : Config.Policies) (t : Time) (s : State) : State → Prop where
  /-- IDLE, no key (R181). -/
  | noKey : s.ks = .idle → scanKey P s = Config.noKey → KbdMove P pol t s (afterScan P s)
  /-- IDLE, a key arms a candidate (R181). -/
  | arm : s.ks = .idle → scanKey P s ≠ Config.noKey →
      KbdMove P pol t s { afterScan P s with
        candPos := scanKey P s, debDeadline := timeAdd t P.debounceMs, ks := .cand }
  /-- CAND before the deadline (R182). -/
  | wait : s.ks = .cand → timeReached t s.debDeadline = false → KbdMove P pol t s s
  /-- CAND, the press is confirmed (R183). -/
  | confirm (bs : List Byte) : s.ks = .cand → timeReached t s.debDeadline = true → scanKey P s = s.candPos →
      makeSeq P (scanKey P s) (scanMask P s) = .ok bs →
      KbdMove P pol t s (confirmPress P t (scanKey P s) (scanMask P s) bs (afterScan P s))
  /-- CAND, the candidate is dropped (R184). -/
  | reject : s.ks = .cand → timeReached t s.debDeadline = true → scanKey P s ≠ s.candPos →
      KbdMove P pol t s (rejectCandidate (afterScan P s))
  /-- PRESSED, the key is released (R185). -/
  | release (bs : List Byte) : s.ks = .pressed → scanKey P s = Config.noKey →
      breakSeq P s.pressedPos (policyMask pol.breakMods (scanMask P s) s.modsSnap) = .ok bs →
      KbdMove P pol t s (releaseKey P t bs (afterScan P s))
  /-- PRESSED, a repeat is due (R186). -/
  | again (bs : List Byte) : s.ks = .pressed → scanKey P s ≠ Config.noKey → timeReached t s.tmDeadline = true →
      repeatSeq P s.pressedPos (policyMask pol.repeatMods (scanMask P s) s.modsSnap) = .ok bs →
      KbdMove P pol t s (repeatKey P t bs (afterScan P s))
  /-- PRESSED, nothing is due (R187). -/
  | held : s.ks = .pressed → scanKey P s ≠ Config.noKey → timeReached t s.tmDeadline = false →
      KbdMove P pol t s (afterScan P s)

/-- If the arms answer a next state, it is one of the moves. -/
theorem kbdArms_cases {P : Config.Params} {pol : Config.Policies} {t : Time} {s u : State}
    (h : kbdArms P pol t s = .next u) : KbdMove P pol t s u := by
  unfold kbdArms at h
  split at h
  · next hk =>
    unfold idleArm at h
    split at h
    · next hn => cases h; exact .noKey hk hn
    · next hn => cases h; exact .arm hk hn
  · next hk =>
    split at h
    · next ht =>
      unfold confirmArm at h
      split at h
      · next he =>
        obtain ⟨bs, hb, rfl⟩ := withBytes_eq_next.mp h
        exact .confirm bs hk ht he hb
      · next he => cases h; exact .reject hk ht he
    · next ht => cases h; exact .wait hk (by simpa using ht)
  · next hk =>
    unfold pressedArm at h
    split at h
    · next hn =>
      obtain ⟨bs, hb, rfl⟩ := withBytes_eq_next.mp h
      exact .release bs hk hn hb
    · next hn =>
      split at h
      · next ht =>
        obtain ⟨bs, hb, rfl⟩ := withBytes_eq_next.mp h
        exact .again bs hk hn ht hb
      · next ht => cases h; exact .held hk hn (by simpa using ht)
  · cases h

/-- If the keyboard step answers a next state, R48 held, and one of the arms moved at the clock value read. -/
theorem kbdStep_cases {P : Config.Params} {pol : Config.Policies} {s t : State} (h : kbdStep P pol s = .next t) :
    s.tracking P = true ∧ ∃ u, KbdMove P pol s.readClock.now s.readClock u ∧ t = u.setPhase .host := by
  unfold kbdStep at h
  split at h
  · next ht =>
    obtain ⟨u, hu, rfl⟩ := onNext_eq_next.mp h
    exact ⟨ht, u, kbdArms_cases hu, rfl⟩
  · cases h

/-- While R48 holds and KS is a used value, the arms answer a next state. -/
theorem kbdArms_goes_on {P : Config.Params} {pol : Config.Policies} {t : Time} {s : State}
    (hk : s.ks ≠ .unused) (ht : s.tracking P = true) : ∃ u, kbdArms P pol t s = .next u := by
  have seq : ∀ {p : Pos} (m : Mask) (f : RomWord → List Byte) (g : List Byte → State), keyTracked P p = true →
      ∃ u, withBytes (withWord (lookup P p m) f) g = .next u := by
    intro p m f g hp
    obtain ⟨e, he⟩ := lookup_tracked m hp
    exact ⟨g (f e), by simp [he, withWord, withBytes]⟩
  unfold kbdArms
  split
  · unfold idleArm; split <;> exact ⟨_, rfl⟩
  · next hc =>
    simp only [State.tracking, hc, Bool.and_eq_true] at ht
    split
    · unfold confirmArm; split
      · next he => exact seq _ _ _ (he ▸ ht.1)
      · exact ⟨_, rfl⟩
    · exact ⟨_, rfl⟩
  · next hc =>
    simp only [State.tracking, hc, Bool.and_eq_true] at ht
    unfold pressedArm; split
    · exact seq _ _ _ ht.1
    · split
      · exact seq _ _ _ ht.1
      · exact ⟨_, rfl⟩
  · next hc => exact absurd hc hk

/-- R48 reads nothing that the clock read writes. -/
@[simp] theorem tracking_readClock (P : Config.Params) (s : State) : s.readClock.tracking P = s.tracking P := rfl

end Sys2Proof.Machine
end

