-- ==== Sys2Proof/Laws/PerInstr.lean ====
section
/-! SUPPORT. Statements made once per instruction, as syntax. -/

namespace Sys2Proof.Laws.EncodedLength

/-- The encoding of a well-formed command is as long as its command byte says (R102). -/
def Statement (i : Instr) : Prop :=
  i.wellFormed = true → ∃ b rest, encode i = b :: rest ∧ commandLength b = (encode i).length

theorem setleds (p : Byte) : Statement (.setleds p) := fun _ => ⟨_, _, rfl, rfl⟩

theorem echo : Statement (.echo) := fun _ => ⟨_, _, rfl, rfl⟩

theorem scanset (p : Byte) : Statement (.scanset p) := fun _ => ⟨_, _, rfl, rfl⟩

theorem readid : Statement (.readid) := fun _ => ⟨_, _, rfl, rfl⟩

theorem typematic (rsvd : BitVec 1) (delay : BitVec 2) (rate : BitVec 5) : Statement (.typematic rsvd delay rate) := fun _ => ⟨_, _, rfl, rfl⟩

theorem enable : Statement (.enable) := fun _ => ⟨_, _, rfl, rfl⟩

theorem disable : Statement (.disable) := fun _ => ⟨_, _, rfl, rfl⟩

theorem setdefault : Statement (.setdefault) := fun _ => ⟨_, _, rfl, rfl⟩

theorem alltypem : Statement (.alltypem) := fun _ => ⟨_, _, rfl, rfl⟩

theorem allmb : Statement (.allmb) := fun _ => ⟨_, _, rfl, rfl⟩

theorem allmake : Statement (.allmake) := fun _ => ⟨_, _, rfl, rfl⟩

theorem alltmb : Statement (.alltmb) := fun _ => ⟨_, _, rfl, rfl⟩

theorem keytypem : Statement (.keytypem) := fun _ => ⟨_, _, rfl, rfl⟩

theorem keymb : Statement (.keymb) := fun _ => ⟨_, _, rfl, rfl⟩

theorem keymake : Statement (.keymake) := fun _ => ⟨_, _, rfl, rfl⟩

theorem resend : Statement (.resend) := fun _ => ⟨_, _, rfl, rfl⟩

theorem reset : Statement (.reset) := fun _ => ⟨_, _, rfl, rfl⟩

theorem byte (b : Byte) : Statement (.byte b) := by
  intro h
  refine ⟨b, [], rfl, ?_⟩
  revert b
  decide

end Sys2Proof.Laws.EncodedLength
end

