-- ==== Sys2Proof/Laws/Step.lean ====
section
/-! SUPPORT. Everything one step of the machine can do, once (spec/40_control_loop.md R140). -/

namespace Sys2Proof.Machine

/-- The moves of one step at the parameters `P`. -/
inductive StepMove (P : Config.Params) (s : State) : State → Prop where
  /-- The parameter read holds (R303). -/
  | held : s.hostWait ≠ .none → (s.awaitBytes 1).rx = [] → StepMove P s (s.awaitBytes 1)
  /-- The parameter arrives (R272). -/
  | parameter (p : Byte) (rest : List Byte) (u : State) : s.hostWait ≠ .none → (s.awaitBytes 1).rx = p :: rest →
      completeParameter s.hostWait p ((s.awaitBytes 1).takeRx rest) = .next u → StepMove P s (u.setPhase .diag)
  /-- The keyboard step. -/
  | keyboard (u : State) : s.hostWait = .none → s.phase = .kbd → s.tracking P = true →
      KbdMove P Config.policies s.readClock.now s.readClock u → StepMove P s (u.setPhase .host)
  /-- The host step. -/
  | host (t : State) : s.hostWait = .none → s.phase = .host → HostMove s t → StepMove P s t
  /-- The empty diagnostic sub-step. -/
  | diag : s.hostWait = .none → s.phase = .diag → StepMove P s (s.setPhase .led)
  /-- The LED step. -/
  | led : s.hostWait = .none → s.phase = .led →
      StepMove P s ((ledDecay s.readClock.now s.readClock).setPhase .kbd)

theorem subStep_waiting {P : Config.Params} {s : State} (h : s.hostWait ≠ .none) :
    subStep P s = parameterStep s := by
  unfold subStep; split <;> simp_all

theorem subStep_ready {P : Config.Params} {s : State} (h : s.hostWait = .none) : subStep P s = phaseStep P s := by
  unfold subStep; split <;> simp_all

/-- A step of an admitted instance is the sub-step (R9). -/
theorem stepWith_admitted {P : Config.Params} (h : P.admitted = true) (s : State) : stepWith P s = subStep P s := by
  simp [stepWith, h]

/-- Any other instance is refused (R9). -/
theorem stepWith_refused {P : Config.Params} (h : P.admitted = false) (s : State) :
    stepWith P s = .refused .parametersNotAdmitted := by simp [stepWith, h]

/-- A step that answers a next state is a sub-step of an admitted instance. -/
theorem stepWith_eq_next {P : Config.Params} {s t : State} :
    stepWith P s = .next t ↔ P.admitted = true ∧ subStep P s = .next t := by
  cases h : P.admitted <;> simp [stepWith, h]

/-- The machine's step is the step of its own instance. -/
theorem step_eq_stepWith (s : State) : step s = stepWith Config.params s :=
  (stepWith_admitted Config.params_admitted s).symm

/-- If a sub-step answers a next state, it is one of the moves. -/
theorem subStep_cases {P : Config.Params} {s t : State} (h : subStep P s = .next t) : StepMove P s t := by
  by_cases hw : s.hostWait = .none
  · rw [subStep_ready hw] at h
    unfold phaseStep at h
    split at h
    · next hp =>
      obtain ⟨ht, u, hu, rfl⟩ := kbdStep_cases h
      exact .keyboard u hw hp ht hu
    · next hp => exact .host t hw hp (hostStep_cases h)
    · next hp => cases h; exact .diag hw hp
    · next hp => cases h; exact .led hw hp
  · rw [subStep_waiting hw] at h
    rcases parameterStep_cases h with ⟨hr, rfl⟩ | ⟨p, rest, u, hr, hu, rfl⟩
    · exact .held hw hr
    · exact .parameter p rest u hw hr hu

/-- If a step answers a next state, it is one of the moves. -/
theorem stepWith_cases {P : Config.Params} {s t : State} (h : stepWith P s = .next t) : StepMove P s t :=
  subStep_cases (stepWith_eq_next.mp h).2

end Sys2Proof.Machine
end

