-- ==== Sys2Proof/Tests/Slice0.lean ====
section
/-! SUPPORT. The model's own tests. Ids such as SC6, E11 or F14 name the vectors of spec/95_test_vectors.md, from which the
expected values are taken; the fixture is that file's §2. The last section shows, for every obligation with hypotheses, a
concrete case that meets them. -/

namespace Sys2Proof.Tests

-- One theorem at a time: many kernel evaluations waiting on one another would each hold a thread.
set_option Elab.async false

open Sys2Proof.Machine

/-! ## Helpers -/

/-- The state an operation goes on to. -/
def ran : Result → Option State
  | .next s => some s
  | _ => none

/-- The fault an operation stops with. -/
def faulted : Result → Option Fault
  | .fault r => some r
  | _ => none

/-- The refusal an operation stops with. -/
def refusedBy : Result → Option Refusal
  | .refused r => some r
  | _ => none

theorem ran_some {o : Result} {t : State} (h : ran o = some t) : o = .next t := by
  cases o with
  | next s => exact congrArg _ (Option.some.inj h)
  | fault r => cases h
  | refused r => cases h

/-- The row byte of a column with the given keys down (R43, the deterministic matrix). -/
def rowsOf (keys : List (Nat × Nat)) (c : Nat) : Byte :=
  keys.foldl (fun b k => if k.1 = c then b &&& ~~~(BitVec.twoPow 8 k.2) else b) 0xFF

/-- The ten samples of one scan with the given keys down. -/
def pressing (keys : List (Nat × Nat)) : List Byte := [0, 1, 2, 3, 4, 5, 6, 7, 8, 9].map (rowsOf keys)

/-- The state with the next scan's samples placed. -/
def holding (keys : List (Nat × Nat)) (s : State) : State := { s with rowScript := pressing keys }

/-- The state after power-on. -/
def start : State := State.powerOn false

/-- The environment of one POLL t directive (R113): every clock read gives t, the given keys are down, and the host offers
nothing beyond RX. -/
def placed (t : Nat) (keys : List (Nat × Nat)) (s : State) : State :=
  { s with clockScript := [t - s.clockMs, 0], rowScript := pressing keys, hostScript := [none, none] }

/-- POLL t on the fixture, with the given keys down. -/
def pollAt (t : Nat) (keys : List (Nat × Nat)) (s : Option State) : Option State :=
  s.bind fun s => ran (pollWith Config.fixture (placed t keys s))

/-- HOST BYTES (R113). -/
def queue (bs : List Byte) (s : Option State) : Option State := s.map fun s => { s with rx := s.rx ++ bs }

/-- What one scan reports (SC vectors). -/
def scanOf (keys : List (Nat × Nat)) : Pos × Mask :=
  (scanKey Config.fixture (holding keys start), scanMask Config.fixture (holding keys start))

/-- The three sequences of a position and a mask (E vectors), empty where a lookup faults. -/
def sequences (p : Pos) (m : Mask) : List Byte × List Byte × List Byte :=
  (((makeSeq Config.fixture p m).toOption.getD []), ((breakSeq Config.fixture p m).toOption.getD []),
    ((repeatSeq Config.fixture p m).toOption.getD []))

/-- What POLL 0 sends on TX, the configuration it leaves, and the parameter it awaits, with the given bytes on RX. -/
def replyTo (bs : List Byte) : Option (List Byte × BitVec 2 × BitVec 5 × HostWait) :=
  (pollAt 0 [] (queue bs (some start))).map fun s => (s.tx, s.cfgDelayIdx, s.cfgRepeatIdx, s.hostWait)

/-! ## WellFormed -/

theorem test_wellFormed_refuses_byte_of_the_map : (Instr.byte 0xED).wellFormed = false := by decide
theorem test_wellFormed_refuses_byte_0xFF : (Instr.byte 0xFF).wellFormed = false := by decide
theorem test_wellFormed_accepts_reserved_byte : (Instr.byte 0xF1).wellFormed = true := by decide
theorem test_posLegal_refuses_80 : posLegal 80 = false := by decide
theorem test_posLegal_refuses_0xFE : posLegal 0xFE = false := by decide
theorem test_posLegal_accepts_79_and_none : posLegal 79 = true ∧ posLegal 0xFF = true := by decide

/-- L9: a word with bit 11 set, and a word with a code of 0 and a flag. -/
theorem test_instance_refused :
    (({ Config.fixture with romU := fun p => if p.val = 5 then 0x0800 else Config.fixture.romU p } :
        Config.Params).admitted = false) ∧
    (({ Config.fixture with romS := fun p => if p.val = 79 then 0x0100 else Config.fixture.romS p } :
        Config.Params).admitted = false) ∧
    (({ Config.fixture with posLShift := ⟨9, 0⟩ } : Config.Params).admitted = false) := by decide +kernel

/-- R9: an instance outside R8 is refused, whatever the step. -/
theorem test_instance_refused_by_name :
    refusedBy (stepWith { Config.fixture with romU := fun _ => 0x0800 } start) = some .parametersNotAdmitted ∧
    refusedBy (pollWith { Config.fixture with tReply := 1 } start) = some .parametersNotAdmitted := by decide +kernel
/-- A command that the host sends as it is asked, with RX empty before. -/
theorem test_offered_command_runs :
    (ran (step { start with phase := .host, hostScript := [some 0xF2] })).map (fun s => (s.tx, s.rx)) =
      some ([0xAB, 0xAB], []) := by decide

/-! ## Decoding: every row of the opcode map (R111), the bytes written out from its table -/

theorem test_decode_SETLEDS : decode [0xED, 0x07] = .ok (.setleds 0x07, []) := rfl
theorem test_decode_ECHO : decode [0xEE, 0x55] = .ok (.echo, [0x55]) := rfl
theorem test_decode_SCANSET : decode [0xF0, 0x03] = .ok (.scanset 0x03, []) := rfl
theorem test_decode_READID : decode [0xF2] = .ok (.readid, []) := rfl
theorem test_decode_TYPEMATIC : decode [0xF3, 0b10101011] = .ok (.typematic 0b1 0b01 0b01011, []) := rfl
theorem test_decode_ENABLE : decode [0xF4] = .ok (.enable, []) := rfl
theorem test_decode_DISABLE : decode [0xF5] = .ok (.disable, []) := rfl
theorem test_decode_DEFAULT : decode [0xF6] = .ok (.setdefault, []) := rfl
theorem test_decode_ALLTYPEM : decode [0xF7] = .ok (.alltypem, []) := rfl
theorem test_decode_ALLMB : decode [0xF8] = .ok (.allmb, []) := rfl
theorem test_decode_ALLMAKE : decode [0xF9] = .ok (.allmake, []) := rfl
theorem test_decode_ALLTMB : decode [0xFA] = .ok (.alltmb, []) := rfl
theorem test_decode_KEYTYPEM : decode [0xFB, 0x1C] = .ok (.keytypem, [0x1C]) := rfl
theorem test_decode_KEYMB : decode [0xFC] = .ok (.keymb, []) := rfl
theorem test_decode_KEYMAKE : decode [0xFD] = .ok (.keymake, []) := rfl
theorem test_decode_RESEND : decode [0xFE] = .ok (.resend, []) := rfl
theorem test_decode_RESET : decode [0xFF] = .ok (.reset, []) := rfl
theorem test_decode_BYTE : decode [0x00] = .ok (.byte 0x00, []) ∧ decode [0xEC] = .ok (.byte 0xEC, []) ∧
    decode [0xEF] = .ok (.byte 0xEF, []) ∧ decode [0xF1] = .ok (.byte 0xF1, []) := ⟨rfl, rfl, rfl, rfl⟩
theorem test_decode_stops : decode [] = .error .noByte ∧ decode [0xF3] = .error (.awaitsParameter 0xF3) := ⟨rfl, rfl⟩
theorem test_tableWord_two_bytes : decodeTableWord 16 0x2BF3 = some (.typematic 0 1 11) := rfl
/-- The table gives the parameter no bits: it is 0. -/
theorem test_tableWord_short : decodeTableWord 8 0xAAF0 = some (.scanset 0) := rfl

/-! ## Host commands (H vectors) -/

theorem test_H1_SETLEDS : replyTo [0xED, 0x07] = some ([0xFA, 0xFA], 1, 11, .none) := by decide +kernel
theorem test_H2_SETLEDS_holds : replyTo [0xED] = some ([0xFA], 1, 11, .wLeds) := by decide +kernel
theorem test_H4_ECHO : replyTo [0xEE] = some ([0xEE], 1, 11, .none) := by decide +kernel
theorem test_H5_SCANSET_query : replyTo [0xF0, 0x00] = some ([0xFA, 0xFA, 0x02], 1, 11, .none) := by decide +kernel
theorem test_H6_SCANSET_set : replyTo [0xF0, 0x03] = some ([0xFA, 0xFA], 1, 11, .none) := by decide +kernel
theorem test_H7_READID : replyTo [0xF2] = some ([0xAB, 0xAB], 1, 11, .none) := by decide +kernel
theorem test_H10_TYPEMATIC : replyTo [0xF3, 0x7F] = some ([0xFA], 3, 31, .none) := by decide +kernel
theorem test_H11_TYPEMATIC_bit7 : replyTo [0xF3, 0xAB] = some ([0xFA], 1, 11, .none) := by decide +kernel
theorem test_H11_TYPEMATIC_unspecified :
    refusedBy (completeTypematic .unspecified (paramRsvd 0xAB) (paramDelay 0xAB) (paramRate 0xAB) start) =
      some .typematicBit7 := by decide
theorem test_H12_ENABLE : replyTo [0xF4] = some ([0xFA], 1, 11, .none) := by decide +kernel
/-- H13: reporting goes on after Disable. -/
theorem test_H13_DISABLE :
    (pollAt 6 [(1, 2)] (pollAt 1 [(1, 2)] (pollAt 0 [] (queue [0xF5] (some start))))).map (·.tx) =
      some [0xFA, 0x1C] := by decide +kernel
/-- H14: one command a poll. -/
theorem test_H14_DEFAULT :
    (pollAt 0 [] (queue [0xF3, 0x00, 0xF6] (some start))).map (fun s => (s.tx, s.cfgDelayIdx, s.cfgRepeatIdx, s.rx)) =
      some ([0xFA], 0, 0, [0xF6]) ∧
    (pollAt 1 [] (pollAt 0 [] (queue [0xF3, 0x00, 0xF6] (some start)))).map
      (fun s => (s.tx, s.cfgDelayIdx, s.cfgRepeatIdx, s.rx)) = some ([0xFA], 1, 11, []) := by decide +kernel
theorem test_H15_silent_variants :
    ([0xF7, 0xF8, 0xF9, 0xFA, 0xFB, 0xFC, 0xFD] : List Byte).all
      (fun b => replyTo [b] == some ([], 1, 11, .none)) = true := by decide +kernel
/-- H17: a follow-up byte equal to a command executes. -/
theorem test_H17_KEYTYPEM_reads_no_parameter :
    (pollAt 1 [] (pollAt 0 [] (queue [0xFB, 0xF2] (some start)))).map (·.tx) = some [0xAB, 0xAB] := by decide +kernel
theorem test_H18_RESEND :
    (pollAt 1 [] (pollAt 0 [] (queue [0xF2, 0xFE] (some start)))).map (·.tx) = some [0xAB, 0xAB] := by decide +kernel
/-- H19 and F16: Reset keeps the configuration. -/
theorem test_H19_RESET :
    (pollAt 1 [] (pollAt 0 [] (queue [0xF3, 0x00, 0xFF] (some start)))).map
      (fun s => (s.tx, s.cfgDelayIdx, s.cfgRepeatIdx)) = some ([0xFA, 0xFA, 0xAA], 0, 0) := by decide +kernel
theorem test_H20_BYTE :
    ([0x00, 0xEC, 0xEF, 0xF1] : List Byte).all (fun b => replyTo [b] == some ([], 1, 11, .none)) = true := by
  decide +kernel
/-- H21: the key's bytes come before the reply. -/
theorem test_H21_key_before_reply :
    (pollAt 5 [(1, 2)] (queue [0xEE] (pollAt 0 [(1, 2)] (some start)))).map (·.tx) = some [0x1C, 0xEE] := by
  decide +kernel
/-- S3: the longer wait stands between the two bytes of Reset. -/
theorem test_RESET_waits :
    (ran (exec .reset start)).map (·.trace) = some [.replyWait, .tx 0xFA, .resetWait, .tx 0xAA] := by decide
/-- Reset with nothing placed but a command: the very next step runs it. -/
theorem test_withFetchWord_runs :
    (ran (step (State.reset.withFetchWord 8 0xFF))).map (·.tx) = some [0xFA, 0xAA] := by decide

/-! ## The scanner (SC vectors) -/

theorem test_SC1_none : scanOf [] = (0xFF, 0b000) := by decide +kernel
theorem test_SC4_column_first : scanOf [(3, 0), (1, 7)] = (0x0F, 0b000) := by decide +kernel
theorem test_SC5_modifier_alone : scanOf [(8, 0)] = (0xFF, 0b010) := by decide +kernel
theorem test_SC6_key_in_modifier_column : scanOf [(8, 0), (8, 1)] = (0x41, 0b010) := by decide +kernel
theorem test_SC7_two_modifiers : scanOf [(9, 0), (8, 5), (9, 7)] = (0x4F, 0b101) := by decide +kernel
theorem test_SC8_all_keys :
    (scanKey Config.fixture { start with rowScript := List.replicate 10 0 },
      scanMask Config.fixture { start with rowScript := List.replicate 10 0 }) = (0x00, 0b111) := by decide +kernel
theorem test_SC9 : scanOf [(8, 5), (8, 6)] = (0x46, 0b100) := by decide +kernel
/-- SC12: no modifier bit carries over. -/
theorem test_SC12_mask_is_fresh :
    (afterScan Config.fixture { holding [] start with modsLive := 0b111 }).modsLive = 0b000 := by decide +kernel

/-! ## Lookup and encoder (L and E vectors) -/

theorem test_L1_L5 :
    (lookup Config.fixture 0x0A 0b000).toOption = some 0x001C ∧ (lookup Config.fixture 0x0A 0b010).toOption = some 0x021C ∧
    (lookup Config.fixture 0x0A 0b101).toOption = some 0x001C ∧ (lookup Config.fixture 0x0A 0b111).toOption = some 0x021C := by
  decide
theorem test_L6_fields : romCode 0x0771 = 0x71 ∧ romExt 0x0771 = true ∧ romSynShift 0x0771 = true ∧
    romSynAltGr 0x0771 = true ∧ romMapped 0x0771 = true ∧ romMapped 0 = false := by decide
theorem test_L8_faults :
    lookup Config.fixture 0xFF 0 = .error .romIndexOutOfRange ∧ lookup Config.fixture 0x50 0 = .error .romIndexOutOfRange ∧
    lookup Config.fixture 0x48 0 = .error .lookupOfModifier := ⟨rfl, rfl, rfl⟩
theorem test_E3 : sequences 0x0A 0b010 = ([0x12, 0x1C], [0xF0, 0x1C, 0xF0, 0x12], [0x1C]) := by decide
theorem test_E5 : sequences 0x0A 0b111 =
    ([0x14, 0x59, 0x12, 0x1C], [0xF0, 0x1C, 0xF0, 0x12, 0xF0, 0x59, 0xF0, 0x14], [0x1C]) := by decide
theorem test_E7 : sequences 0x0B 0b010 = ([0xE0, 0x72], [0xE0, 0xF0, 0x72], [0xE0, 0x72]) := by decide
theorem test_E9 : sequences 0x11 0b000 =
    ([0x12, 0xE0, 0x11, 0x15], [0xF0, 0x15, 0xE0, 0xF0, 0x11, 0xF0, 0x12], [0x15]) := by decide
theorem test_E11 : sequences 0x13 0b101 =
    ([0x14, 0x59, 0x12, 0xE0, 0x11, 0xE0, 0x71],
      [0xE0, 0xF0, 0x71, 0xE0, 0xF0, 0x11, 0xF0, 0x12, 0xF0, 0x59, 0xF0, 0x14], [0xE0, 0x71]) := by decide
theorem test_E13_unmapped : sequences 0x0C 0b101 = ([0x14, 0x59], [0xF0, 0x59, 0xF0, 0x14], []) := by decide

/-! ## The debounce/typematic machine (F vectors) and the LED (LD vectors) -/

/-- F1. -/
def armed : Option State := pollAt 100 [(1, 2)] (some start)
/-- F5. -/
def pressed : Option State := pollAt 105 [(1, 2)] armed

theorem test_F1_arms : armed.map (fun s => (s.ks, s.candPos, s.debDeadline, s.tx)) = some (.cand, 0x0A, 105, []) := by
  decide +kernel
/-- F2: before the deadline nothing is scanned. -/
theorem test_F2_waits :
    (pollAt 104 [] armed).map (fun s => (s.ks, s.candPos, s.trace.length)) =
      some (.cand, 0x0A, (armed.map (·.trace.length)).getD 0) := by decide +kernel
theorem test_F3_bounce :
    (pollAt 105 [] armed).map (fun s => (s.ks, s.candPos, s.tx, s.ledOn)) = some (.idle, 0xFF, [], false) := by
  decide +kernel
theorem test_F4_other_key :
    (pollAt 111 [(0, 0), (1, 2)] (pollAt 106 [(0, 0), (1, 2)] (pollAt 105 [(0, 0), (1, 2)] armed))).map (·.tx) =
      some [0x29] := by decide +kernel
theorem test_F5_confirms :
    pressed.map (fun s => (s.ks, s.pressedPos, s.modsSnap, s.tmDeadline, s.tx)) = some (.pressed, 0x0A, 0b000, 605, [0x1C]) ∧
    pressed.map (fun s => (s.ledOn, s.ledOffDl, s.ledNextDl)) = some (true, 155, 205) := by decide +kernel
theorem test_F6_F7_repeat_at_the_deadline :
    (pollAt 604 [(1, 2)] pressed).map (fun s => (s.tx, s.tmDeadline)) = some ([0x1C], 605) ∧
    (pollAt 605 [(1, 2)] pressed).map (fun s => (s.tx, s.tmDeadline)) = some ([0x1C, 0x1C], 697) := by decide +kernel
theorem test_F8_late_repeat :
    (pollAt 700 [(1, 2)] pressed).map (fun s => (s.tx, s.tmDeadline)) = some ([0x1C, 0x1C], 792) := by decide +kernel
theorem test_F9_release_wins :
    (pollAt 605 [] pressed).map (fun s => (s.tx, s.ks)) = some ([0x1C, 0xF0, 0x1C], .idle) := by decide +kernel
theorem test_F10_rollover :
    (pollAt 610 [] (pollAt 605 [(0, 0)] pressed)).map (·.tx) = some [0x1C, 0x1C, 0xF0, 0x1C] := by decide +kernel
theorem test_F12_unmapped_with_ctrl :
    (pollAt 510 [(9, 0)] (pollAt 505 [(9, 0), (1, 4)] (pollAt 5 [(9, 0), (1, 4)] (pollAt 0 [(9, 0), (1, 4)]
      (some start))))).map (fun s => (s.tx, s.tmDeadline)) = some ([0x14, 0xF0, 0x14], 597) := by decide +kernel
/-- F14: the deadline wraps and fires early. -/
theorem test_F14_early_fire :
    (pollAt 4294967295 [(1, 2)] (pollAt 4294967294 [(1, 2)] (some start))).map
      (fun s => (s.debDeadline, s.tx, s.tmDeadline, s.ledOffDl, s.ledOn)) = some (3, [0x1C], 499, 49, false) := by
  decide +kernel
/-- F15: the clock passes the deadline without a read at it. -/
theorem test_F15_late_fire :
    (pollAt 4294967297 [(1, 2)] (pollAt 4294967296 [(1, 2)] (pollAt 4294967294 [(1, 2)] (pollAt 4294967290 [(1, 2)]
      (some start))))).map (fun s => (s.ks, s.debDeadline, s.now)) = some (.cand, 4294967295, 1) := by decide +kernel
theorem test_LD2_request_dropped :
    ledRequest Config.fixture 150 (ledRequest Config.fixture 105 start) = ledRequest Config.fixture 105 start := by decide
theorem test_LD3_LD4_decay :
    (ledDecay 154 (ledRequest Config.fixture 105 start)).ledOn = true ∧
    (ledDecay 155 (ledRequest Config.fixture 105 start)).ledN = true ∧
    (ledDecay 155 (ledRequest Config.fixture 105 start)).ledNextDl = 205 := by decide
/-- P3, polls 0 to 520: the Ctrl break comes from the snapshot. -/
theorem test_P3_snapshot_break :
    (pollAt 520 [] (pollAt 515 [(2, 0)] (pollAt 5 [(9, 0), (2, 0)] (pollAt 0 [(9, 0), (2, 0)] (some start))))).map (·.tx) =
      some [0x14, 0xE0, 0x11, 0x15, 0x15, 0xF0, 0x15, 0xE0, 0xF0, 0x11, 0xF0, 0x14] := by decide +kernel
/-- P3, polls 600 to 1110: a LeftShift change switches the repeat's table. -/
theorem test_P3_live_repeat :
    (pollAt 1110 [] (pollAt 1105 [(1, 3)] (pollAt 605 [(8, 0), (1, 3)] (pollAt 600 [(8, 0), (1, 3)] (some start))))).map
      (·.tx) = some [0xE0, 0x72, 0xE0, 0x75, 0xE0, 0xF0, 0x72] := by decide +kernel
theorem test_KS_3_faults :
    faulted (kbdStep Config.fixture Config.policies { placed 0 [] start with ks := .unused }) = some .keyStateUnused := by
  decide +kernel
theorem test_broken_tracking_faults :
    faulted (kbdStep Config.fixture Config.policies { placed 0 [] start with candPos := 0x0A }) = some .trackingBroken := by
  decide +kernel

/-! ## Power-on and the diagnostic channel (RS and DG vectors) -/

theorem test_RS2_announcement : (State.powerOn true).tx = [0xAA] ∧ State.reset.tx = [] := by decide

/-- One diagnostic sub-step after another, DIAG_PRESENT = true, with the given characters coming. -/
def diagRun (n : Nat) (chars : List (Option Byte)) : Result :=
  (List.replicate n ()).foldl (fun o _ => andThen o (diagStep true))
    (.next { start with phase := .diag, diagScript := chars, rowScript := pressing [] })

/-- DG1, the source's example. -/
theorem test_DG1 : (ran (diagRun 3 [some 0x73, some 0x31, some 0x65])).map (fun s => (s.tx, s.phase)) =
    some ([0x1E, 0xF0, 0x1E], .led) := by decide
theorem test_DG2 : (ran (diagRun 3 [some 0x73, some 0x46, some 0x46])).map (·.tx) = some [0xFF, 0xF0, 0xFF] := by decide
theorem test_DG3 : refusedBy (diagRun 2 [some 0x73, some 0x67, some 0x30]) = some .diagNonHex := by decide
theorem test_DG4 : (ran (diagRun 1 [some 0x64])).map (fun s => (s.tx, s.diagOut.length, s.phase)) = some ([], 1, .led) := by
  decide
theorem test_DG5 : (ran (diagRun 1 [some 0x78])).map (fun s => (s.tx, s.diagOut, s.phase)) = some ([], [], .led) := by decide
theorem test_DG6_holds : (ran (diagRun 2 [some 0x72, none])).map (fun s => (s.tx, s.phase, s.colSel)) =
    some ([], .diag, 0xF) := by decide +kernel
theorem test_DG6_discards : (ran (diagRun 2 [some 0x72, some 0x71])).map (fun s => (s.tx, s.phase, s.diagScript)) =
    some ([], .led, []) := by decide

/-! ## Witnesses: a case that meets the hypotheses of each obligation -/

/-- The host step is next, with the given bytes on RX and nothing more offered. -/
def atHostWith (bs : List Byte) : State :=
  { start with phase := .host, rx := bs, hostScript := [none, none] }

/-- The host step is next, RX is empty, and the host offers the given bytes as it is asked. -/
def offering (offers : List (Option Byte)) : State := { start with phase := .host, hostScript := offers }

/-- A CMDP command byte whose parameter does not come is all that is fetched. -/
theorem onlyByte_fetched {b : Byte} (h : b ∈ ([0xED, 0xF0, 0xF3] : List Byte)) :
    (atHostWith [b]).fetchCommand.rx = [b] ∧ (offering [some b, none]).fetchCommand.rx = [b] := by
  revert b; decide

/-- A held block, with the given bytes on RX. -/
def heldWith (w : HostWait) (bs : List Byte) : State := { atHostWith bs with hostWait := w }

/-- A keyboard step about to run at clock value t with the given keys down. -/
def atKbd (t : Nat) (keys : List (Nat × Nat)) (s : State) : State :=
  { placed t keys s with phase := .kbd }

/-- A candidate 0x0A whose deadline is 105. -/
def candidate : State := { start with ks := .cand, candPos := 0x0A, debDeadline := 105 }

/-- A pressed key 0x0A whose typematic deadline is 605. -/
def held : State := { start with ks := .pressed, pressedPos := 0x0A, tmDeadline := 605 }

/-- The key (1, 2) held down through five sub-steps, from a keyboard step at 100 to one at 105. -/
def fromIdle : State :=
  { start with clockScript := [100, 0, 5], rowScript := pressing [(1, 2)] ++ pressing [(1, 2)] ++ pressing [],
               hostScript := [none] }

/-- The states of n sub-steps on the fixture. -/
def after (n : Nat) (s : State) : Option State :=
  (List.replicate n ()).foldl (fun o _ => o.bind fun s => ran (stepWith Config.fixture s)) (some s)

/-- Where n sub-steps on the fixture end. -/
def endOf (n : Nat) (s : State) : State := (after n s).getD s

theorem step_of_ran {s t : State} (h : ran (stepWith Config.fixture s) = some t) :
    stepWith Config.fixture s = .next t := ran_some h

theorem witness_DecodeEncodeAgree : (Instr.byte 0xEC).wellFormed = true ∧ (Instr.typematic 1 3 31).wellFormed = true := by
  decide
theorem witness_DecodeTakesExactlyTheEncoding :
    decode [0xF3, 0xAB, 0x01] = .ok (.typematic 1 1 11, [0x01]) := rfl
theorem witness_LengthFollowsFromCommandByte :
    ((0xED : Byte) = 0xED ∨ (0xED : Byte) = 0xF0 ∨ (0xED : Byte) = 0xF3) ∧
    ((0xF0 : Byte) = 0xED ∨ (0xF0 : Byte) = 0xF0 ∨ (0xF0 : Byte) = 0xF3) ∧
    ((0xF3 : Byte) = 0xED ∨ (0xF3 : Byte) = 0xF0 ∨ (0xF3 : Byte) = 0xF3) ∧
    ¬ ((0xFB : Byte) = 0xED ∨ (0xFB : Byte) = 0xF0 ∨ (0xFB : Byte) = 0xF3) := by decide
theorem witness_ScanSetReplies : ((0 : Byte) = 0) ∧ ((1 : Byte) ≠ 0) ∧ ((0xFF : Byte) ≠ 0) := by decide
theorem witness_TypematicBit7Policy : (0x80 : Byte).getLsbD 7 = true ∧ (0x7F : Byte).getLsbD 7 = false := by decide
theorem witness_UnrecognisedByteIgnored :
    (0xF1 : Byte) ∉ ([0xED, 0xEE, 0xF0, 0xF2, 0xF3, 0xF4, 0xF5, 0xF6, 0xF7, 0xF8, 0xF9, 0xFA, 0xFB, 0xFC, 0xFD, 0xFE,
      0xFF] : List Byte) := by decide
theorem witness_StepRunsDecodedInstruction :
    ((start.withFetchWord 16 0x2BF3).atHost ∧ decode (start.withFetchWord 16 0x2BF3).rx = .ok (.typematic 0 1 11, [])) ∧
    ((offering [some 0xF3, some 0x2B]).atHost ∧
      decode (offering [some 0xF3, some 0x2B]).fetchCommand.rx = .ok (.typematic 0 1 11, [])) :=
  ⟨⟨⟨rfl, rfl⟩, rfl⟩, ⟨rfl, rfl⟩, rfl⟩
theorem witness_HostStepWithoutByte :
    (atHostWith []).atHost ∧ (atHostWith []).rx = [] ∧ (atHostWith []).nextOffer = none := ⟨⟨rfl, rfl⟩, rfl, rfl⟩
theorem witness_HostStepTakesOneCommand :
    (∃ t, (atHostWith [0xF2, 0xF2]).atHost ∧ ((atHostWith [0xF2, 0xF2]).awaitBytes 1).rx = 0xF2 :: [0xF2] ∧
      step (atHostWith [0xF2, 0xF2]) = .next t) ∧
    (∃ t, (atHostWith [0xF0]).atHost ∧ ((atHostWith [0xF0]).awaitBytes 1).rx = 0xF0 :: [] ∧
      step (atHostWith [0xF0]) = .next t) ∧
    (∃ t, (offering [some 0xF0, some 0x00]).atHost ∧ ((offering [some 0xF0, some 0x00]).awaitBytes 1).rx = 0xF0 :: [] ∧
      step (offering [some 0xF0, some 0x00]) = .next t) :=
  ⟨⟨_, ⟨rfl, rfl⟩, rfl, rfl⟩, ⟨_, ⟨rfl, rfl⟩, rfl, rfl⟩, ⟨_, ⟨rfl, rfl⟩, rfl, rfl⟩⟩
theorem witness_ParameterCommandsHold :
    (∀ b ∈ ([0xED, 0xF0, 0xF3] : List Byte), (atHostWith [b]).atHost ∧ (offering [some b, none]).atHost ∧
      (atHostWith [b]).fetchCommand.rx = [b] ∧ (offering [some b, none]).fetchCommand.rx = [b]) ∧
    (((0xED : Byte) = 0xED ∧ HostWait.wLeds = .wLeds) ∧ ((0xF0 : Byte) = 0xF0 ∧ HostWait.wScanset = .wScanset) ∧
      ((0xF3 : Byte) = 0xF3 ∧ HostWait.wTypematic = .wTypematic)) :=
  ⟨fun _ h => ⟨⟨rfl, rfl⟩, ⟨rfl, rfl⟩, onlyByte_fetched h⟩, by decide⟩
theorem witness_ParameterCompletesCommand :
    (((heldWith .wLeds [0xFF]).awaitBytes 1).rx = 0xFF :: [] ∧ (heldWith .wLeds [0xFF]).hostWait = .wLeds) ∧
    (({ offering [some 0xFF] with hostWait := .wLeds }.awaitBytes 1).rx = 0xFF :: []) ∧
    (((heldWith .wScanset [0x00]).awaitBytes 1).rx = 0x00 :: [] ∧ (heldWith .wScanset [0x00]).hostWait = .wScanset ∧
      (0x00 : Byte) = 0) ∧
    (((heldWith .wScanset [0x01]).awaitBytes 1).rx = 0x01 :: [] ∧ (heldWith .wScanset [0x01]).hostWait = .wScanset ∧
      (0x01 : Byte) ≠ 0) ∧
    (((heldWith .wTypematic [0xFF]).awaitBytes 1).rx = 0xFF :: [] ∧ (heldWith .wTypematic [0xFF]).hostWait = .wTypematic) := by
  decide
theorem witness_HoldLastsUntilHostByte :
    (heldWith .wLeds []).hostWait ≠ .none ∧ (heldWith .wLeds []).rx = [] ∧
    (heldWith .wLeds []).hostScript = List.replicate 2 none ++ [] := by decide
theorem witness_OnlyHostByteLiftsHold :
    (heldWith .wLeds []).hostWait ≠ .none ∧ (∃ t, stepWith Config.fixture (heldWith .wLeds []) = .next t) ∧
    (heldWith .wScanset [0x00]).hostWait ≠ .none ∧ (∃ t, stepWith Config.fixture (heldWith .wScanset [0x00]) = .next t) :=
  ⟨by decide, ⟨_, rfl⟩, by decide, ⟨_, rfl⟩⟩
theorem witness_LateParameterEqualsWholeCommand :
    ∀ b ∈ ([0xED, 0xF0, 0xF3] : List Byte), (b = 0xED ∨ b = 0xF0 ∨ b = 0xF3) ∧
      ((atHostWith [b]).atHost ∧ (atHostWith [b]).fetchCommand.rx = [b]) ∧
      ((offering [some b, none]).atHost ∧ (offering [some b, none]).fetchCommand.rx = [b]) :=
  fun _ h => ⟨by simpa using h, ⟨⟨rfl, rfl⟩, (onlyByte_fetched h).1⟩, ⟨rfl, rfl⟩, (onlyByte_fetched h).2⟩
theorem witness_ConfigurationWriters :
    (∃ t, stepWith Config.fixture (heldWith .wTypematic [0x00]) = .next t ∧
      t.cfgDelayIdx ≠ (heldWith .wTypematic [0x00]).cfgDelayIdx) ∧
    (∃ t, stepWith Config.fixture (atHostWith [0xF3, 0x2A]) = .next t ∧
      t.cfgRepeatIdx ≠ (atHostWith [0xF3, 0x2A]).cfgRepeatIdx) :=
  ⟨⟨_, rfl, by decide⟩, ⟨_, rfl, by decide⟩⟩
theorem witness_StepFollowsPhase :
    ∀ p : Phase, { start with phase := p }.hostWait = .none ∧ { start with phase := p }.phase = p :=
  fun _ => ⟨rfl, rfl⟩
theorem witness_PhaseCycle :
    (∃ t, start.hostWait = .none ∧ start.phase = .kbd ∧ stepWith Config.fixture (atKbd 100 [] start) = .next t) ∧
    (∃ t, (atHostWith [0xED]).atHost ∧ stepWith Config.fixture (atHostWith [0xED]) = .next t) ∧
    (∃ t, stepWith Config.fixture { start with phase := .diag } = .next t) ∧
    (∃ t, stepWith Config.fixture { start with phase := .led, clockScript := [1] } = .next t) ∧
    (∃ t, (heldWith .wLeds []).hostWait ≠ .none ∧ stepWith Config.fixture (heldWith .wLeds []) = .next t) :=
  ⟨⟨_, rfl, rfl, rfl⟩, ⟨_, ⟨rfl, rfl⟩, rfl⟩, ⟨_, rfl⟩, ⟨_, rfl⟩, ⟨_, by decide, rfl⟩⟩
theorem witness_ClockIsMonotone :
    ∃ t, stepWith Config.fixture { start with phase := .led, clockScript := [1] } = .next t ∧
      t.clockMs ≠ { start with phase := .led, clockScript := [1] }.clockMs := ⟨_, rfl, by decide⟩
theorem witness_IdleArmsCandidate :
    (atKbd 100 [] start).ks = .idle ∧ (atKbd 100 [] start).tracking Config.fixture = true ∧
    (atKbd 100 [] start).kbdKey Config.fixture = 0xFF ∧ (atKbd 100 [(9, 7)] start).ks = .idle ∧
    (atKbd 100 [(9, 7)] start).tracking Config.fixture = true ∧
    (atKbd 100 [(9, 7)] start).kbdKey Config.fixture ≠ 0xFF := by decide +kernel
theorem witness_CandidateWaits :
    (atKbd 104 [] candidate).ks = .cand ∧ (atKbd 104 [] candidate).tracking Config.fixture = true ∧
    (atKbd 104 [] candidate).tKbd.toNat < (atKbd 104 [] candidate).debDeadline.toNat := by decide +kernel
theorem witness_EqualRescanConfirms :
    (atKbd 105 [(1, 2)] candidate).ks = .cand ∧ (atKbd 105 [(1, 2)] candidate).tracking Config.fixture = true ∧
    (atKbd 105 [(1, 2)] candidate).debDeadline.toNat ≤ (atKbd 105 [(1, 2)] candidate).tKbd.toNat ∧
    (atKbd 105 [(1, 2)] candidate).kbdKey Config.fixture = (atKbd 105 [(1, 2)] candidate).candPos := by decide +kernel
theorem witness_UnequalRescanRejects :
    (atKbd 105 [(0, 0)] candidate).ks = .cand ∧ (atKbd 105 [(0, 0)] candidate).tracking Config.fixture = true ∧
    (atKbd 105 [(0, 0)] candidate).debDeadline.toNat ≤ (atKbd 105 [(0, 0)] candidate).tKbd.toNat ∧
    (atKbd 105 [(0, 0)] candidate).kbdKey Config.fixture ≠ (atKbd 105 [(0, 0)] candidate).candPos := by decide +kernel
theorem witness_NoKeyReleases :
    (atKbd 605 [] held).ks = .pressed ∧ (atKbd 605 [] held).tracking Config.fixture = true ∧
    (atKbd 605 [] held).kbdKey Config.fixture = 0xFF := by decide +kernel
theorem witness_DueRepeatIsSent :
    (atKbd 605 [(0, 0)] held).ks = .pressed ∧ (atKbd 605 [(0, 0)] held).tracking Config.fixture = true ∧
    (atKbd 605 [(0, 0)] held).kbdKey Config.fixture ≠ 0xFF ∧
    (atKbd 605 [(0, 0)] held).tmDeadline.toNat ≤ (atKbd 605 [(0, 0)] held).tKbd.toNat := by decide +kernel
theorem witness_HeldKeyBeforeDeadline :
    (atKbd 604 [(1, 2)] held).ks = .pressed ∧ (atKbd 604 [(1, 2)] held).tracking Config.fixture = true ∧
    (atKbd 604 [(1, 2)] held).kbdKey Config.fixture ≠ 0xFF ∧
    (atKbd 604 [(1, 2)] held).tKbd.toNat < (atKbd 604 [(1, 2)] held).tmDeadline.toNat := by decide +kernel
theorem witness_KeyboardStepFaults :
    { start with candPos := 0x0A }.tracking Config.fixture = false ∧ { start with ks := .unused }.ks = .unused ∧
    start.tracking Config.fixture = true ∧ start.ks ≠ .unused := by decide +kernel

/-- Five sub-steps confirm the key, and the run from an untracked state has them as its steps. -/
theorem witness_DebounceLaw :
    fromIdle.ks = .idle ∧ Steps Config.fixture fromIdle (endOf 5 fromIdle) ∧ (endOf 5 fromIdle).ks = .pressed := by
  refine ⟨rfl, ?_, by decide +kernel⟩
  exact .tail (.tail (.tail (.tail (.tail .refl
    (step_of_ran (t := endOf 1 fromIdle) (by decide +kernel)))
    (step_of_ran (t := endOf 2 fromIdle) (by decide +kernel)))
    (step_of_ran (t := endOf 3 fromIdle) (by decide +kernel)))
    (step_of_ran (t := endOf 4 fromIdle) (by decide +kernel)))
    (step_of_ran (by decide +kernel))

/-- The same run meets the mirror law's hypotheses, its word is mapped, and the next keyboard step can release. -/
theorem witness_BreakMirrorsMake :
    fromIdle.ks = .idle ∧ Steps Config.fixture fromIdle (endOf 5 fromIdle) ∧ (endOf 5 fromIdle).ks = .pressed ∧
    ∃ e t, lookup Config.fixture (endOf 5 fromIdle).pressedPos (endOf 5 fromIdle).modsSnap = .ok e ∧ e ≠ 0 ∧
      stepWith Config.fixture (atKbd 200 [] held) = .next t ∧ t.ks = .idle := by
  obtain ⟨h1, h2, h3⟩ := witness_DebounceLaw
  exact ⟨h1, h2, h3, 0x001C, endOf 1 (atKbd 200 [] held), by decide +kernel, by decide,
    step_of_ran (by decide +kernel), by decide +kernel⟩

/-- The fixture with a delay and a repeat interval of 2 ms. -/
def fast : Config.Params := { Config.fixture with delayMs := fun _ => 2, repeatMs := fun _ => 2 }

/-- The key held after the confirmation at 110 and k runs of the arm, one a millisecond. -/
def heldFor : Nat → State
  | 0 => (ran (kbdArms fast Config.policies 110 (holding [(1, 2)] candidate))).getD start
  | k + 1 => (ran (kbdArms fast Config.policies (BitVec.ofNat 32 (110 + k + 1)) (holding [(1, 2)] (heldFor k)))).getD start

/-- Repeats fall on the second and the fourth run, and the first and the third send nothing. -/
theorem witness_TypematicLaw :
    0 < 2 ∧ 110 + 4 + 2 + 2 < 2 ^ 32 ∧ (holding [(1, 2)] candidate).ks = .cand ∧
    (fast.delayMs (holding [(1, 2)] candidate).cfgDelayIdx).toNat = 2 ∧
    kbdArms fast Config.policies (BitVec.ofNat 32 110) (holding [(1, 2)] candidate) = .next (heldFor 0) ∧
    (heldFor 0).ks = .pressed ∧
    ∀ k < 4,
      (holding [(1, 2)] (heldFor k)).ks = (heldFor k).ks ∧
      (holding [(1, 2)] (heldFor k)).pressedPos = (heldFor k).pressedPos ∧
      (holding [(1, 2)] (heldFor k)).tmDeadline = (heldFor k).tmDeadline ∧
      (fast.repeatMs (holding [(1, 2)] (heldFor k)).cfgRepeatIdx).toNat = 2 ∧
      scanKey fast (holding [(1, 2)] (heldFor k)) ≠ 0xFF ∧
      kbdArms fast Config.policies (BitVec.ofNat 32 (110 + k + 1)) (holding [(1, 2)] (heldFor k)) =
        .next (heldFor (k + 1)) := by
  refine ⟨by decide, by decide, rfl, rfl, ran_some (by decide +kernel), by decide +kernel, fun k hk => ?_⟩
  have h : ∀ k < 4, scanKey fast (holding [(1, 2)] (heldFor k)) ≠ 0xFF ∧
      ran (kbdArms fast Config.policies (BitVec.ofNat 32 (110 + k + 1)) (holding [(1, 2)] (heldFor k))) =
        some (heldFor (k + 1)) := by decide +kernel
  exact ⟨rfl, rfl, rfl, rfl, (h k hk).1, ran_some (h k hk).2⟩
theorem test_typematic_run :
    (heldFor 0).tx = [0x1C] ∧ (heldFor 1).tx = [0x1C] ∧ (heldFor 2).tx = [0x1C, 0x1C] ∧
    (heldFor 3).tx = [0x1C, 0x1C] ∧ (heldFor 4).tx = [0x1C, 0x1C, 0x1C] := by decide +kernel

theorem witness_PressedKeyStaysUntilNoKey :
    (atKbd 604 [(0, 0)] held).ks = .pressed ∧
    stepWith Config.fixture (atKbd 604 [(0, 0)] held) = .next (endOf 1 (atKbd 604 [(0, 0)] held)) ∧
    (endOf 1 (atKbd 604 [(0, 0)] held)).ks = .pressed ∧
    stepWith Config.fixture (atKbd 604 [] held) = .next (endOf 1 (atKbd 604 [] held)) ∧
    (endOf 1 (atKbd 604 [] held)).ks = .idle :=
  ⟨rfl, step_of_ran (by decide +kernel), by decide +kernel, step_of_ran (by decide +kernel), by decide +kernel⟩
theorem witness_LookupSelectsTable :
    ((79 : Pos).toNat < 80 ∧ isModifierPos Config.fixture 79 = false) ∧ isModifierPos Config.fixture 0x45 = true ∧
    (isModifierPos Config.fixture 80 = false ∧ 80 ≤ (80 : Pos).toNat) := by decide
theorem witness_EncoderSequences :
    lookup Config.fixture 0x13 0b101 = .ok 0x0771 ∧ lookup Config.fixture 0x0C 0b101 = .ok 0 := ⟨rfl, rfl⟩
theorem witness_LedBlinkWindow :
    (start.ledNextDl.toNat ≤ (0 : Time).toNat) ∧
    ((204 : Time).toNat < (ledRequest Config.fixture 105 start).ledNextDl.toNat) ∧
    ((ledRequest Config.fixture 105 start).ledOn = true ∧
      (ledRequest Config.fixture 105 start).ledOffDl.toNat ≤ (155 : Time).toNat) ∧
    ((154 : Time).toNat < (ledRequest Config.fixture 105 start).ledOffDl.toNat) := by decide
theorem witness_LedRequestedOnlyOnPressAndRelease :
    stepWith Config.fixture (atKbd 105 [(1, 2)] candidate) = .next (endOf 1 (atKbd 105 [(1, 2)] candidate)) ∧
    (atKbd 105 [(1, 2)] candidate).ledOn = false ∧ (endOf 1 (atKbd 105 [(1, 2)] candidate)).ledOn = true ∧
    stepWith Config.fixture (atKbd 605 [] held) = .next (endOf 1 (atKbd 605 [] held)) ∧
    (endOf 1 (atKbd 605 [] held)).ledOffDl ≠ (atKbd 605 [] held).ledOffDl :=
  ⟨step_of_ran (by decide +kernel), rfl, by decide +kernel, step_of_ran (by decide +kernel), by decide +kernel⟩
/-- Any step will do: a repeat, which sends bytes. -/
theorem witness_any_step :
    stepWith Config.fixture (atKbd 605 [(1, 2)] held) = .next (endOf 1 (atKbd 605 [(1, 2)] held)) :=
  step_of_ran (by decide +kernel)
theorem witness_LedIsInvisibleToTheHost :
    ∃ t, stepWith Config.fixture (atKbd 605 [(1, 2)] held) = .next t := ⟨_, witness_any_step⟩
theorem witness_TxOnlyGrows :
    ∃ t, stepWith Config.fixture (atKbd 605 [(1, 2)] held) = .next t := ⟨_, witness_any_step⟩
theorem witness_ObservationMatchesTx :
    ∃ t, sentBytes (atKbd 605 [(1, 2)] held).trace = (atKbd 605 [(1, 2)] held).tx ∧
      stepWith Config.fixture (atKbd 605 [(1, 2)] held) = .next t := ⟨_, rfl, witness_any_step⟩
theorem witness_KeyboardStepIgnoresHost :
    ∃ t, kbdStep Config.fixture Config.policies (atKbd 605 [(1, 2)] held) = .next t := ⟨_, witness_any_step⟩

theorem start_inv : start.Inv Config.fixture :=
  ⟨by decide, by decide, by decide, by decide, by decide⟩
theorem held_inv : (atKbd 605 [(1, 2)] held).Inv Config.fixture :=
  ⟨by decide +kernel, by decide +kernel, by decide +kernel, by decide +kernel, by decide +kernel⟩
theorem witness_StepKeepsInvariant :
    ∃ t, (atKbd 605 [(1, 2)] held).Inv Config.fixture ∧ stepWith Config.fixture (atKbd 605 [(1, 2)] held) = .next t :=
  ⟨_, held_inv, witness_any_step⟩
theorem witness_InvariantNeverStops : Config.fixture.admitted = true ∧ start.Inv Config.fixture :=
  ⟨Config.fixture_admitted, start_inv⟩
theorem witness_BlockNeverHalts :
    Config.fixture.admitted = true ∧ (atKbd 605 [(1, 2)] held).Inv Config.fixture ∧
    Steps Config.fixture (atKbd 605 [(1, 2)] held) (endOf 1 (atKbd 605 [(1, 2)] held)) ∧
    Steps Config.fixture (atKbd 605 [(1, 2)] held) (atKbd 605 [(1, 2)] held) ∧ (atKbd 605 [(1, 2)] held).atKeyboard :=
  ⟨Config.fixture_admitted, held_inv, .tail .refl witness_any_step, .refl, rfl, rfl⟩
theorem witness_InstanceRefusedUnlessAdmitted :
    ({ Config.fixture with romU := fun _ => 0x0100 } : Config.Params).admitted = false := by decide +kernel

/-- The diagnostic step is next, with the given characters coming. -/
def atDiagWith (m : DiagMode) (chars : List (Option Byte)) : State :=
  { start with phase := .diag, diagMode := m, diagScript := chars }

theorem witness_DiagnosticCommands :
    ((atDiagWith (.hexLow 3) [none]).diagMode = .hexLow 3 ∧ (atDiagWith (.hexLow 3) [none]).nextDiag = none) ∧
    ((atDiagWith .ready [none]).phase = .diag ∧ (atDiagWith .ready [none]).diagMode = .ready ∧
      (atDiagWith .ready [none]).nextDiag = none) ∧
    ((atDiagWith .ready [some 0x64]).nextDiag = some 0x64 ∧ (atDiagWith .ready [some 0x72]).nextDiag = some 0x72 ∧
      (atDiagWith .ready [some 0x78]).nextDiag = some 0x78) ∧
    ((atDiagWith .ready [some 0x73, some 0x31, some 0x65]).nextDiag = some 0x73 ∧
      (atDiagWith .ready [some 0x73, some 0x31, some 0x65]).askDiag.nextDiag = some 0x31 ∧
      (atDiagWith .ready [some 0x73, some 0x31, some 0x65]).askDiag.askDiag.nextDiag = some 0x65 ∧
      hexValue 0x31 = some 0x1 ∧ hexValue 0x65 = some 0xE ∧
      (0x1E : Byte).toNat = 16 * (0x1 : BitVec 4).toNat + (0xE : BitVec 4).toNat) ∧
    (hexValue 0x67 = none ∧ hexValue 0x3A = none ∧ hexValue 0x40 = none ∧ hexValue 0x2F = none ∧ hexValue 0x60 = none ∧
      hexValue 0x47 = none ∧ (hexValue 0x39).isSome ∧ (hexValue 0x46).isSome ∧ (hexValue 0x66).isSome) := by decide
theorem witness_DiagnosticRawLoopHolds :
    (atDiagWith .rawLoop [none]).phase = .diag ∧ (atDiagWith .rawLoop [none]).diagMode = .rawLoop ∧
    (atDiagWith .rawLoop [none]).nextDiag = none ∧ (atDiagWith .rawLoop [some 0x71]).nextDiag = some 0x71 := by decide

end Sys2Proof.Tests
end

section
/-! PROOFS. Instances outside R8 are refused as a whole (spec/00_scope.md R8, R9). -/

namespace Sys2Proof

namespace Config

theorem romWordOk_iff (e : RomWord) :
    romWordOk e = true ↔ e = 0 ∨ (e.extractLsb' 11 5 = 0 ∧ e.extractLsb' 0 8 ≠ 0) := by
  simp [romWordOk]

/-- The admission check, read as the constraints of R8. -/
theorem Params.admitted_iff (P : Params) :
    P.admitted = true ↔
      (P.posCtrl ≠ P.posLShift ∧ P.posCtrl ≠ P.posRShift ∧ P.posLShift ≠ P.posRShift) ∧
      (∀ p, romWordOk (P.romU p) = true) ∧ (∀ p, romWordOk (P.romS p) = true) ∧
      P.delayMs 1 = 500 ∧ P.repeatMs 11 = 92 ∧ P.tReply < P.tReset := by
  simp only [Params.admitted, Bool.and_eq_true, decide_eq_true_eq, beq_iff_eq, and_assoc]

end Config

namespace Machine

/-- A refusal of the first operation is the answer of the sequence. -/
@[simp] theorem andThen_refused (r : Refusal) (f : State → Result) : andThen (.refused r) f = .refused r := rfl

/-- A poll of an instance that is not admitted is refused at its first step (R9). -/
theorem pollWith_refused {P : Config.Params} (h : P.admitted = false) (s : State) :
    pollWith P s = .refused .parametersNotAdmitted := by
  rw [pollWith, stepWith_refused h s, andThen_refused]

/-- Settles O58: the admission check clause by clause, then the refusal of the first step, which ends the poll too. -/
theorem instanceRefusedUnlessAdmitted : Obligations.InstanceRefusedUnlessAdmitted := by
  refine ⟨fun P => ?admission, fun P s h => ⟨stepWith_refused h s, pollWith_refused h s⟩,
    step_eq_stepWith, Config.params_admitted⟩
  case admission => simpa only [Config.romWordOk_iff] using P.admitted_iff

end Machine

end Sys2Proof
end

section
/-! PROOFS. What each move of a step keeps, and the statements of spec/10_state.md on single registers that follow:
the invariant (R48), the hold (R47), the writers of the configuration (R40), the clock (R45). -/

namespace Sys2Proof.Machine

/-! ### What the host's side keeps -/

/-- What the transport and the host commands never touch: the key and LED registers, COL_SEL, the diagnostic mode, and the
clock and key-matrix agents (R47, R144). -/
structure KeyboardKept (s t : State) : Prop where
  ks : t.ks = s.ks
  candPos : t.candPos = s.candPos
  debDeadline : t.debDeadline = s.debDeadline
  pressedPos : t.pressedPos = s.pressedPos
  modsLive : t.modsLive = s.modsLive
  modsSnap : t.modsSnap = s.modsSnap
  tmDeadline : t.tmDeadline = s.tmDeadline
  ledOn : t.ledOn = s.ledOn
  ledOffDl : t.ledOffDl = s.ledOffDl
  ledNextDl : t.ledNextDl = s.ledNextDl
  colSel : t.colSel = s.colSel
  diagMode : t.diagMode = s.diagMode
  clockMs : t.clockMs = s.clockMs
  rowScript : t.rowScript = s.rowScript

theorem awaitBytes_keeps_keyboard (s : State) (n : Nat) : KeyboardKept s (s.awaitBytes n) := by
  constructor <;> simp

theorem fetchCommand_keeps_keyboard (s : State) : KeyboardKept s s.fetchCommand := by
  constructor <;> simp

/-- A reply after bytes are taken off RX, and a new PHASE, touch nothing of the keyboard's. -/
theorem replied_keeps_keyboard {s a u : State} {rest : List Byte} (p : Phase) (ha : KeyboardKept s a)
    (h : replied (a.takeRx rest) u) : KeyboardKept s (u.setPhase p) := by
  obtain ⟨bs, es, d, r, w, rfl, -, -⟩ := h
  exact { ha with }

theorem HostMove.keeps_keyboard {s t : State} (h : HostMove s t) : KeyboardKept s t := by
  have hf := fetchCommand_keeps_keyboard s
  cases h with
  | run i rest u _ hu => exact replied_keeps_keyboard .diag hf (exec_cases hu).1
  | nothing _ => exact { hf with }
  | hold => constructor <;> simp

/-! ### What the keyboard's side keeps -/

/-- What no arm of the keyboard step touches: PHASE, HOST_WAIT, the configuration, the diagnostic mode and the clock
agent, which is read before the arm runs. -/
structure HostKept (s t : State) : Prop where
  phase : t.phase = s.phase
  hostWait : t.hostWait = s.hostWait
  cfgDelayIdx : t.cfgDelayIdx = s.cfgDelayIdx
  cfgRepeatIdx : t.cfgRepeatIdx = s.cfgRepeatIdx
  diagMode : t.diagMode = s.diagMode
  clockMs : t.clockMs = s.clockMs

theorem KbdMove.keeps_host {P : Config.Params} {pol : Config.Policies} {t : Time} {s u : State}
    (h : KbdMove P pol t s u) : HostKept s u := by
  cases h with
  | wait => exact ⟨rfl, rfl, rfl, rfl, rfl, rfl⟩
  | noKey | held => constructor <;> simp
  | arm | reject => constructor <;> simp
  | confirm => constructor <;> simp [confirmPress]
  | release => constructor <;> simp [releaseKey]
  | again => constructor <;> simp [repeatKey]

/-! ### The invariant of R48 -/

theorem tracking_idle {P : Config.Params} {s : State} (h : s.ks = .idle) :
    s.tracking P = true ↔ s.candPos = Config.noKey ∧ s.pressedPos = Config.noKey := by
  simp [State.tracking, h]

theorem tracking_cand {P : Config.Params} {s : State} (h : s.ks = .cand) :
    s.tracking P = true ↔ keyTracked P s.candPos = true ∧ s.pressedPos = Config.noKey := by
  simp [State.tracking, h]

theorem tracking_pressed {P : Config.Params} {s : State} (h : s.ks = .pressed) :
    s.tracking P = true ↔ keyTracked P s.pressedPos = true ∧ s.candPos = Config.noKey := by
  simp [State.tracking, h]

/-- (a) to (d) of R48 read KS and the two position registers only. -/
theorem tracking_congr {P : Config.Params} {s t : State} (hk : t.ks = s.ks) (hc : t.candPos = s.candPos)
    (hp : t.pressedPos = s.pressedPos) : t.tracking P = s.tracking P := by
  simp only [State.tracking, hk, hc, hp]

/-- Every arm of the keyboard step keeps (a) to (d) of R48; an armed position is one SCAN reports, so it may be tracked
(R164). -/
theorem KbdMove.tracking {P : Config.Params} {pol : Config.Policies} {t : Time} {s u : State}
    (h : KbdMove P pol t s u) (hs : s.tracking P = true) : u.tracking P = true := by
  cases h with
  | wait => exact hs
  | noKey | held => rwa [tracking_congr (afterScan_ks P s) (afterScan_candPos P s) (afterScan_pressedPos P s)]
  | arm hk hn =>
    obtain ⟨-, hp⟩ := (tracking_idle hk).mp hs
    exact (tracking_cand rfl).mpr ⟨scanKey_tracked P s hn, by simpa using hp⟩
  | confirm bs hk _ he _ =>
    obtain ⟨hc, -⟩ := (tracking_cand hk).mp hs
    refine (tracking_pressed (by simp [confirmPress])).mpr ?_
    simpa [confirmPress, he] using hc
  | reject hk _ _ =>
    obtain ⟨-, hp⟩ := (tracking_cand hk).mp hs
    exact (tracking_idle rfl).mpr ⟨rfl, by simpa using hp⟩
  | release bs hk _ _ =>
    obtain ⟨-, hc⟩ := (tracking_pressed hk).mp hs
    exact (tracking_idle rfl).mpr ⟨by simpa [releaseKey] using hc, rfl⟩
  | again bs hk _ _ _ =>
    rwa [tracking_congr (s := s) (by simp [repeatKey]) (by simp [repeatKey]) (by simp [repeatKey])]

/-- An arm that goes on ends in a used KS (R32). -/
theorem KbdMove.ks_used {P : Config.Params} {pol : Config.Policies} {t : Time} {s u : State}
    (h : KbdMove P pol t s u) : u.ks ≠ .unused := by
  cases h with
  | noKey hk _ | wait hk _ | held hk _ _ => simp [hk]
  | arm | reject => simp
  | confirm => simp [confirmPress]
  | release => simp [releaseKey]
  | again _ hk _ _ _ => simp [repeatKey, hk]

/-- An arm scans, and then leaves COL_SEL idle (R167), or does not drive it. -/
theorem KbdMove.colSel {P : Config.Params} {pol : Config.Policies} {t : Time} {s u : State}
    (h : KbdMove P pol t s u) (hs : s.colSel = Config.colIdle) : u.colSel = Config.colIdle := by
  cases h with
  | wait => exact hs
  | noKey | held | arm | reject => simp
  | confirm => simp [confirmPress]
  | release => simp [releaseKey]
  | again => simp [repeatKey]

/-- The invariant reads nothing of what a host byte changes but PHASE and HOST_WAIT. -/
theorem State.Inv.of_keyboardKept {P : Config.Params} {s t : State} (hi : s.Inv P) (hf : KeyboardKept s t)
    (hw : t.hostWait ≠ .none → t.phase = .host) : t.Inv P where
  keyState := hf.ks ▸ hi.keyState
  tracking := (tracking_congr hf.ks hf.candPos hf.pressedPos).trans hi.tracking
  columns := hf.colSel.trans hi.columns
  waiting := hw
  diagnostic := hf.diagMode.trans hi.diagnostic

/-- A host step that leaves a parameter awaited leaves PHASE at HOST (R47). -/
theorem HostMove.waiting {s t : State} (h : HostMove s t) (hs : s.hostWait = .none) (ht : t.hostWait ≠ .none) :
    t.phase = .host := by
  cases h with
  | run i rest u _ hu =>
    have := (exec_cases hu).2
    simp_all
  | nothing _ => exact absurd (by simpa using hs) ht
  | hold => rfl

/-- Settles O55, by the moves of a step: the host's side keeps the keyboard's registers, and each arm of the keyboard
step keeps (a) to (d) of R48. -/
theorem stepKeepsInvariant : Obligations.StepKeepsInvariant := by
  intro P s t hi h
  cases stepWith_cases h with
  | held =>
    exact hi.of_keyboardKept (awaitBytes_keeps_keyboard s 1) (by simpa using hi.waiting)
  | parameter p rest u hw _ hu =>
    obtain ⟨hr, hn⟩ := completeParameter_cases hw hu
    exact hi.of_keyboardKept (replied_keeps_keyboard .diag (awaitBytes_keeps_keyboard s 1) hr) (absurd hn)
  | host t hw _ hm => exact hi.of_keyboardKept hm.keeps_keyboard (hm.waiting hw)
  | keyboard u hw _ ht hu =>
    exact {
      keyState := hu.ks_used
      tracking := hu.tracking ht
      columns := hu.colSel hi.columns
      waiting := fun _ => rfl
      diagnostic := hu.keeps_host.diagMode.trans hi.diagnostic }
  | diag hw _ => exact { hi with waiting := absurd hw }
  | led hw _ =>
    exact {
      keyState := by simpa using hi.keyState
      tracking := (tracking_congr (s := s) (by simp) (by simp) (by simp)).trans hi.tracking
      columns := by simpa using hi.columns
      waiting := by simp [hw]
      diagnostic := by simpa using hi.diagnostic }

/-- Settles O54: no key is tracked, no parameter is awaited and COL_SEL is idle. -/
theorem invariantAtReset : Obligations.InvariantAtReset where
  keyState := by decide
  tracking := (tracking_idle rfl).mpr ⟨rfl, rfl⟩
  columns := rfl
  waiting := absurd rfl
  diagnostic := rfl

/-- Settles O53: each register of R30 and both streams, as `State.powerOn` sets them. -/
theorem resetValues : Obligations.ResetValues :=
  ⟨rfl, rfl, rfl, rfl, rfl, rfl, rfl, rfl, rfl, rfl, rfl, rfl, rfl, rfl, rfl, rfl, rfl, rfl, rfl⟩

/-! ### The hold (R47, R303) -/

/-- A consultation that leaves RX empty found it empty and got no byte. -/
theorem State.rx_eq_nil_of_awaitBytes {s : State} {n : Nat} (h : (s.awaitBytes n).rx = []) : s.rx = [] := by
  rcases s.awaitBytes_rx n with hr | ⟨-, b, -, hr⟩
  · rw [← hr, h]
  · simp [hr] at h

/-- Replies take nothing from RX. -/
theorem replied_rx {s t : State} (h : replied s t) : t.rx = s.rx := by
  obtain ⟨bs, es, d, r, w, rfl, -, -⟩ := h
  rfl

/-- Settles O22: a held block either keeps holding or completes its command, and neither touches the keyboard's side. -/
theorem onlyHostByteLiftsHold : Obligations.OnlyHostByteLiftsHold := by
  intro P s t hw h
  have ⟨hk, hcase⟩ : KeyboardKept s t ∧
      ((s.rx = [] ∧ t = { s with hostScript := t.hostScript, draws := t.draws }) ∨
        (t.hostWait = .none ∧ t.phase = .diag ∧ ∃ p, (s.awaitBytes 1).rx = p :: t.rx)) := by
    cases stepWith_cases h with
    | held _ hr =>
      have hn := State.rx_eq_nil_of_awaitBytes hr
      refine ⟨awaitBytes_keeps_keyboard s 1, .inl ⟨hn, ?_⟩⟩
      simpa [hr, ← hn] using s.awaitBytes_frame 1
    | parameter p rest u _ hr hu =>
      obtain ⟨hrep, hn⟩ := completeParameter_cases hw hu
      refine ⟨replied_keeps_keyboard .diag (awaitBytes_keeps_keyboard s 1) hrep, .inr ⟨hn, rfl, p, ?_⟩⟩
      simpa [replied_rx hrep] using hr
    | keyboard _ h0 | host _ h0 | diag h0 | led h0 => exact absurd h0 hw
  exact ⟨hcase, hk.clockMs, hk.rowScript, hk.colSel, hk.ks, hk.candPos, hk.pressedPos, hk.debDeadline, hk.tmDeadline,
    hk.modsLive, hk.modsSnap, hk.ledOn, hk.ledOffDl, hk.ledNextDl⟩

/-! ### The configuration (R40) -/

/-- The two configuration fields have their values still. -/
def configKept (s t : State) : Prop := t.cfgDelayIdx = s.cfgDelayIdx ∧ t.cfgRepeatIdx = s.cfgRepeatIdx

theorem completeScanSet_config {p : Byte} {s t : State} (h : completeScanSet p s = .next t) : configKept s t := by
  unfold completeScanSet at h
  split at h <;> (cases h; simp [configKept])

theorem completeParameter_config {w : HostWait} {p : Byte} {s t : State} (h : completeParameter w p s = .next t) :
    w = .wTypematic ∨ configKept s t := by
  cases w with
  | wTypematic => exact .inl rfl
  | none | wLeds => cases h; exact .inr ⟨rfl, rfl⟩
  | wScanset => exact .inr (completeScanSet_config h)

theorem exec_config {i : Instr} {s t : State} (h : exec i s = .next t) :
    (i = .setdefault ∨ ∃ rsvd delay rate, i = .typematic rsvd delay rate) ∨ configKept s t := by
  cases i with
  | setdefault => exact .inl (.inl rfl)
  | typematic rsvd delay rate => exact .inl (.inr ⟨rsvd, delay, rate, rfl⟩)
  | scanset p => exact .inr (by simpa [configKept] using completeScanSet_config h)
  | _ => cases h; exact .inr (by simp [configKept])

/-- Settles O24: every other move of a step keeps both fields. -/
theorem configurationWriters : Obligations.ConfigurationWriters := by
  intro P s t h hne
  by_contra hno
  obtain ⟨hnt, hnx⟩ := not_or.mp hno
  have hk : configKept s t := by
    cases stepWith_cases h with
    | held => simp [configKept]
    | parameter p rest u _ _ hu =>
      have := (completeParameter_config hu).resolve_left hnt
      simpa [configKept] using this
    | keyboard u _ _ _ hu => exact ⟨hu.keeps_host.cfgDelayIdx, hu.keeps_host.cfgRepeatIdx⟩
    | host t hw hp hm =>
      cases hm with
      | run i rest u hd hu =>
        have := (exec_config hu).resolve_left fun hi => hnx ⟨⟨hp, hw⟩, i, rest, hd, hi⟩
        simpa [configKept] using this
      | nothing | hold => simp [configKept]
    | diag => exact ⟨rfl, rfl⟩
    | led => simp [configKept]
  exact hne.elim (· hk.1) (· hk.2)

/-! ### The clock (R45) -/

/-- Settles O27: the keyboard step and the LED step read the clock once, and every other move keeps the count. -/
theorem clockIsMonotone : Obligations.ClockIsMonotone := by
  intro P s t h
  have kept : t.clockMs = s.clockMs → s.clockMs ≤ t.clockMs ∧
      (t.clockMs ≠ s.clockMs → s.hostWait = .none ∧ (s.phase = .kbd ∨ s.phase = .led)) :=
    fun he => ⟨he.ge, absurd he⟩
  cases stepWith_cases h with
  | held => exact kept (by simp)
  | parameter p rest u hw _ hu =>
    exact kept (replied_keeps_keyboard .diag (awaitBytes_keeps_keyboard s 1) (completeParameter_cases hw hu).1).clockMs
  | host t _ _ hm => exact kept hm.keeps_keyboard.clockMs
  | diag => exact kept rfl
  | keyboard u hw hp _ hu =>
    exact ⟨by simp [hu.keeps_host.clockMs], fun _ => ⟨hw, .inl hp⟩⟩
  | led hw hp => exact ⟨by simp, fun _ => ⟨hw, .inr hp⟩⟩

/-! ### The faults of the keyboard step (R32, R48) -/

/-- R48 asserts nothing of the unused KS, which has a fault of its own (R32). -/
theorem tracking_unused {P : Config.Params} {s : State} (h : s.ks = .unused) : s.tracking P = true := by
  simp [State.tracking, h]

/-- While R48 holds, the keyboard step is the arm of KS at the clock value read. -/
theorem kbdStep_tracking {P : Config.Params} {pol : Config.Policies} {s : State} (h : s.tracking P = true) :
    kbdStep P pol s = onNext (kbdArms P pol s.readClock.now s.readClock) fun s' => s'.setPhase .host := by
  simp [kbdStep, h]

/-- Settles O39: the assertion of R48 comes first, then the dispatch on KS. -/
theorem keyboardStepFaults : Obligations.KeyboardStepFaults := by
  intro P pol s
  refine ⟨fun h => ?broken, fun h => ?unused, fun h hk => ?good⟩
  case broken => simp [kbdStep, h]
  case unused =>
    have harms : kbdArms P pol s.readClock.now s.readClock = .fault .keyStateUnused := by simp [kbdArms, h]
    rw [kbdStep_tracking (tracking_unused h), harms]
    rfl
  case good =>
    obtain ⟨u, hu⟩ := kbdArms_goes_on (pol := pol) (t := s.readClock.now) (s := s.readClock) hk h
    exact ⟨u.setPhase .host, by rw [kbdStep_tracking h, hu, onNext_next]⟩

end Sys2Proof.Machine
end

section
/-! PROOFS. What every step adds to TX and to the observation: the same bytes, at most the longest sequence of one
sub-step (spec/10_state.md R44, spec/44_encoder.md R228, spec/40_control_loop.md R145). -/

namespace Sys2Proof.Machine

/-! ### How long a key's sequences are (R225 to R229) -/

/-- An optional fragment is at most as long as the fragment. -/
theorem length_optional_le (c : Bool) (bs : List Byte) : (if c then bs else []).length ≤ bs.length := by
  cases c <;> simp

theorem keyMake_length_le (e : RomWord) : (keyMake e).length ≤ 2 := by
  have hx := length_optional_le (romExt e) [Config.pfxExt]
  unfold keyMake
  split <;> simp at hx ⊢
  omega

theorem keyBreak_length_le (e : RomWord) : (keyBreak e).length ≤ 3 := by
  have hx := length_optional_le (romExt e) [Config.pfxExt]
  unfold keyBreak
  split <;> simp at hx ⊢
  omega

theorem makeBytes_length_le (e : RomWord) (m : Mask) : (makeBytes e m).length ≤ 7 := by
  have hc := length_optional_le (maskCtrl m) [Config.codeCtrl]
  have hr := length_optional_le (maskRShift m) [Config.codeRShift]
  have hs := length_optional_le (romSynShift e) [Config.codeShift]
  have ha := length_optional_le (romSynAltGr e) [Config.pfxExt, Config.codeAltGr]
  have hk := keyMake_length_le e
  simp only [makeBytes, List.length_append, List.length_cons, List.length_nil] at *
  omega

/-- The longest sequence is a break with every fragment: 12 bytes (R228). -/
theorem breakBytes_length_le (e : RomWord) (m : Mask) : (breakBytes e m).length ≤ 12 := by
  have hc := length_optional_le (maskCtrl m) [Config.pfxBreak, Config.codeCtrl]
  have hr := length_optional_le (maskRShift m) [Config.pfxBreak, Config.codeRShift]
  have hs := length_optional_le (romSynShift e) [Config.pfxBreak, Config.codeShift]
  have ha := length_optional_le (romSynAltGr e) [Config.pfxExt, Config.pfxBreak, Config.codeAltGr]
  have hk := keyBreak_length_le e
  simp only [breakBytes, List.length_append, List.length_cons, List.length_nil] at *
  omega

/-- A bound on the bytes of every word bounds the bytes of a looked-up word. -/
theorem withWord_length_le {w : Except Fault RomWord} {f : RomWord → List Byte} {bs : List Byte} {n : Nat}
    (hf : ∀ e, (f e).length ≤ n) (h : withWord w f = .ok bs) : bs.length ≤ n := by
  obtain ⟨e, -, rfl⟩ := withWord_eq_ok.mp h
  exact hf e

/-! ### The bytes sent, on TX and in the observation -/

/-- From `s` to `t` the same bytes, at most 12, are added to TX and to the observation. -/
def sends (s t : State) : Prop :=
  ∃ bs, t.tx = s.tx ++ bs ∧ sentBytes t.trace = sentBytes s.trace ++ bs ∧ bs.length ≤ 12

theorem sends_nothing {s t : State} (hx : t.tx = s.tx) (ht : sentBytes t.trace = sentBytes s.trace) : sends s t :=
  ⟨[], by simp [hx, ht]⟩

/-- A command's replies are sent, also when the transport was consulted before them. -/
theorem sends_of_replied {s a u : State} (p : Phase) (hx : a.tx = s.tx) (ht : a.trace = s.trace) (h : replied a u) :
    sends s (u.setPhase p) := by
  obtain ⟨bs, es, d, r, w, rfl, hb, hl⟩ := h
  exact ⟨bs, by simp [hx], by simp [ht, sentBytes_append, hb], by omega⟩

/-- The LED is no port of TX. -/
@[simp] theorem sentBytes_ledRequest (P : Config.Params) (t : Time) (s : State) :
    sentBytes (ledRequest P t s).trace = sentBytes s.trace := by
  rcases ledRequest_cases P t s with ⟨-, h⟩ | ⟨-, h⟩ <;> simp [h, sentBytes_append, sentBytes]

@[simp] theorem sentBytes_ledDecay (t : Time) (s : State) :
    sentBytes (ledDecay t s).trace = sentBytes s.trace := by
  rcases ledDecay_cases t s with ⟨-, -, h⟩ | ⟨-, h⟩ <;> simp [h, sentBytes_append, sentBytes]

/-- Every arm of the keyboard step sends the bytes of the one sequence it looked up, or none. -/
theorem KbdMove.sends {P : Config.Params} {pol : Config.Policies} {t : Time} {s u : State}
    (h : KbdMove P pol t s u) : sends s u := by
  cases h with
  | wait => exact sends_nothing rfl rfl
  | noKey | held | arm | reject => exact sends_nothing (by simp) (by simp [sentBytes_afterScan])
  | confirm bs _ _ _ hb =>
    have hl : bs.length ≤ 7 := withWord_length_le (fun e => makeBytes_length_le e _) hb
    exact ⟨bs, by simp [confirmPress], by simp [confirmPress, sentBytes_append, sentBytes_afterScan], by omega⟩
  | release bs _ _ hb =>
    have hl : bs.length ≤ 12 := withWord_length_le (fun e => breakBytes_length_le e _) hb
    exact ⟨bs, by simp [releaseKey], by simp [releaseKey, sentBytes_append, sentBytes_afterScan], hl⟩
  | again bs _ _ _ hb =>
    have hl : bs.length ≤ 2 := withWord_length_le keyMake_length_le hb
    exact ⟨bs, by simp [repeatKey], by simp [repeatKey, sentBytes_append, sentBytes_afterScan], by omega⟩

/-- The host step sends a command's replies, or the ACK of a first half. -/
theorem HostMove.sends {s t : State} (h : HostMove s t) : sends s t := by
  cases h with
  | run i rest u _ hu => exact sends_of_replied .diag (by simp) (by simp) (exec_cases hu).1
  | nothing => exact sends_nothing (by simp) (by simp)
  | hold => exact ⟨[Config.ack], by simp, by simp [sentBytes_append, sentBytes], by simp⟩

/-- Every step adds the same bytes, at most 12, to TX and to the observation. -/
theorem stepWith_sends {P : Config.Params} {s t : State} (h : stepWith P s = .next t) : sends s t := by
  cases stepWith_cases h with
  | held => exact sends_nothing (by simp) (by simp)
  | parameter p rest u hw _ hu =>
    exact sends_of_replied .diag (by simp) (by simp) (completeParameter_cases hw hu).1
  | keyboard u _ _ _ hu => exact hu.sends
  | host t _ _ hm => exact hm.sends
  | diag => exact sends_nothing rfl rfl
  | led => exact sends_nothing (by simp) (by simp)

/-- Settles O50, by the bytes a step sends. -/
theorem txOnlyGrows : Obligations.TxOnlyGrows := by
  intro P s t h
  obtain ⟨bs, hx, -, hl⟩ := stepWith_sends h
  exact ⟨bs, hx, hl⟩

/-- Settles O51: nothing is sent at power-on, and a step adds the same bytes to both. -/
theorem observationMatchesTx : Obligations.ObservationMatchesTx := by
  refine ⟨rfl, fun P s t hs h => ?_⟩
  obtain ⟨bs, hx, ht, -⟩ := stepWith_sends h
  rw [hx, ht, hs]

end Sys2Proof.Machine
end

section
/-! PROOFS. The LED is invisible to the host (spec/10_state.md R52, spec/46_led.md R290, R291): a step taken after the LED's
part of a state is blanked out is the step itself, blanked out. -/

namespace Sys2Proof.Machine

/-! ### The state without the LED's part -/

/-- The state with its three LED registers at their reset values and its LED events taken out of the observation. -/
def State.dark (s : State) : State :=
  { s with ledOn := false, ledOffDl := 0, ledNextDl := 0, trace := withoutLed s.trace }

/-- Two states are the same in the dark exactly when they differ in the LED registers and the LED events only. -/
theorem dark_eq_iff {s t : State} : s.dark = t.dark ↔
    s = { t with ledOn := s.ledOn, ledOffDl := s.ledOffDl, ledNextDl := s.ledNextDl, trace := s.trace } ∧
      withoutLed s.trace = withoutLed t.trace := by
  obtain ⟨⟩ := s
  obtain ⟨⟩ := t
  simp only [State.dark, State.mk.injEq, and_assoc, true_and, and_true]

@[simp] theorem withoutLed_append (a b : List PortEvent) : withoutLed (a ++ b) = withoutLed a ++ withoutLed b :=
  List.filter_append a b

@[simp] theorem withoutLed_map_tx (bs : List Byte) : withoutLed (bs.map .tx) = bs.map .tx := by
  simp [withoutLed, List.filter_map, Function.comp_def]

/-! ### Operations in the dark: what reads no LED register commutes with the blanking -/

@[simp] theorem dark_phase (s : State) : s.dark.phase = s.phase := rfl
@[simp] theorem dark_ks (s : State) : s.dark.ks = s.ks := rfl
@[simp] theorem dark_candPos (s : State) : s.dark.candPos = s.candPos := rfl
@[simp] theorem dark_debDeadline (s : State) : s.dark.debDeadline = s.debDeadline := rfl
@[simp] theorem dark_pressedPos (s : State) : s.dark.pressedPos = s.pressedPos := rfl
@[simp] theorem dark_modsSnap (s : State) : s.dark.modsSnap = s.modsSnap := rfl
@[simp] theorem dark_tmDeadline (s : State) : s.dark.tmDeadline = s.tmDeadline := rfl
@[simp] theorem dark_cfgDelayIdx (s : State) : s.dark.cfgDelayIdx = s.cfgDelayIdx := rfl
@[simp] theorem dark_hostWait (s : State) : s.dark.hostWait = s.hostWait := rfl
@[simp] theorem dark_rx (s : State) : s.dark.rx = s.rx := rfl
@[simp] theorem dark_now (s : State) : s.dark.now = s.now := rfl
@[simp] theorem dark_tracking (P : Config.Params) (s : State) : s.dark.tracking P = s.tracking P := rfl

@[simp] theorem setPhase_dark (s : State) (p : Phase) : s.dark.setPhase p = (s.setPhase p).dark := rfl
@[simp] theorem readClock_dark (s : State) : s.dark.readClock = s.readClock.dark := rfl
@[simp] theorem askHost_dark (s : State) : s.dark.askHost = s.askHost.dark := rfl
@[simp] theorem takeRx_dark (s : State) (rest : List Byte) : s.dark.takeRx rest = (s.takeRx rest).dark := rfl
@[simp] theorem endWait_dark (s : State) : s.dark.endWait = s.endWait.dark := rfl

theorem setModsLive_dark (s : State) (m : Mask) : { s.dark with modsLive := m } = { s with modsLive := m }.dark := rfl

theorem setHostWait_dark (s : State) (w : HostWait) :
    { s.dark with hostWait := w } = { s with hostWait := w }.dark := rfl

theorem setConfig_dark (s : State) (d : BitVec 2) (r : BitVec 5) (w : HostWait) :
    { s.dark with cfgDelayIdx := d, cfgRepeatIdx := r, hostWait := w } =
      { s with cfgDelayIdx := d, cfgRepeatIdx := r, hostWait := w }.dark := rfl

theorem setCandidate_dark (s : State) (p : Pos) (d : Time) :
    { s.dark with candPos := p, debDeadline := d, ks := .cand } =
      { s with candPos := p, debDeadline := d, ks := .cand }.dark := rfl

theorem setTmDeadline_dark (s : State) (d : Time) :
    { s.dark with tmDeadline := d } = { s with tmDeadline := d }.dark := rfl

@[simp] theorem emit_dark (s : State) (bs : List Byte) : s.dark.emit bs = (s.emit bs).dark := by
  simp [State.dark, State.emit]

@[simp] theorem reply_dark (s : State) (b : Byte) : s.dark.reply b = (s.reply b).dark := by
  simp [State.dark, State.reply, State.emit, State.observe, withoutLed]

@[simp] theorem replyAfterReset_dark (s : State) (b : Byte) :
    s.dark.replyAfterReset b = (s.replyAfterReset b).dark := by
  simp [State.dark, State.replyAfterReset, State.emit, State.observe, withoutLed]

@[simp] theorem drive_dark (s : State) (c : Option (Fin 10)) : s.dark.drive c = (s.drive c).dark := by
  simp [State.dark, State.drive, withoutLed]

@[simp] theorem select_dark (s : State) (c : Fin 10) : s.dark.select c = (s.select c).dark := by
  simp [State.dark, State.select, State.drive, State.observe, withoutLed]

@[simp] theorem sampleRow_dark (s : State) : s.dark.sampleRow = s.sampleRow.dark := by
  simp [State.dark, State.sampleRow, State.nextRow, withoutLed]

@[simp] theorem awaitBytes_dark (s : State) (n : Nat) : s.dark.awaitBytes n = (s.awaitBytes n).dark := by
  by_cases h : s.rx.length < n <;> simp [State.awaitBytes, h]

@[simp] theorem fetchCommand_dark (s : State) : s.dark.fetchCommand = s.fetchCommand.dark := by
  simp only [State.fetchCommand, awaitBytes_dark, dark_rx]
  split <;> rfl

@[simp] theorem afterSamples_dark (cs : List (Fin 10)) (s : State) :
    afterSamples cs s.dark = (afterSamples cs s).dark := by
  induction cs generalizing s with
  | nil => rfl
  | cons c cs ih => simp [afterSamples, ih]

@[simp] theorem scanKey_dark (P : Config.Params) (s : State) : scanKey P s.dark = scanKey P s := scanKey_congr P rfl rfl

@[simp] theorem scanMask_dark (P : Config.Params) (s : State) : scanMask P s.dark = scanMask P s :=
  scanMask_congr P rfl rfl

@[simp] theorem afterScan_dark (P : Config.Params) (s : State) : afterScan P s.dark = (afterScan P s).dark := by
  simp only [afterScan, afterSamples_dark, drive_dark, scanMask_dark]
  exact setModsLive_dark ((afterSamples scanOrder s).drive none) (scanMask P s)

/-! ### The LED's own operations leave nothing to see in the dark -/

@[simp] theorem dark_dark (s : State) : s.dark.dark = s.dark := by
  simp [State.dark, withoutLed]

@[simp] theorem dark_ledRequest (P : Config.Params) (t : Time) (s : State) : (ledRequest P t s).dark = s.dark := by
  rcases ledRequest_cases P t s with ⟨-, h⟩ | ⟨-, h⟩ <;> simp [h, State.dark, withoutLed]

@[simp] theorem dark_ledDecay (t : Time) (s : State) : (ledDecay t s).dark = s.dark := by
  rcases ledDecay_cases t s with ⟨-, -, h⟩ | ⟨-, h⟩ <;> simp [h, State.dark, withoutLed]

/-! ### Steps in the dark -/

theorem onNext_onNext (o : Result) (f g : State → State) : onNext (onNext o f) g = onNext o fun s => g (f s) := by
  cases o <;> rfl

@[simp] theorem beginParameter_dark (w : HostWait) (s : State) :
    beginParameter w s.dark = (beginParameter w s).dark := by
  rw [beginParameter, reply_dark]
  exact setHostWait_dark (s.reply Config.ack) w

theorem completeScanSet_dark (p : Byte) (s : State) :
    completeScanSet p s.dark = onNext (completeScanSet p s) State.dark := by
  unfold completeScanSet
  split <;> simp

theorem completeTypematic_dark (pol : Config.Bit7Policy) (rsvd : BitVec 1) (delay : BitVec 2) (rate : BitVec 5)
    (s : State) :
    completeTypematic pol rsvd delay rate s.dark = onNext (completeTypematic pol rsvd delay rate s) State.dark := by
  unfold completeTypematic
  split
  · rfl
  · exact congrArg _ (setConfig_dark s delay rate .none)

/-- A completion reads no LED register and drives no LED event. -/
theorem completeParameter_dark (w : HostWait) (p : Byte) (s : State) :
    completeParameter w p s.dark = onNext (completeParameter w p s) State.dark := by
  cases w with
  | none => rfl
  | wLeds => simp [completeParameter, completeSetLeds]
  | wScanset => exact completeScanSet_dark p s
  | wTypematic => exact completeTypematic_dark _ _ _ _ s

/-- A host command reads no LED register and drives no LED event. -/
theorem exec_dark (i : Instr) (s : State) : exec i s.dark = onNext (exec i s) State.dark := by
  cases i with
  | setleds p => simp [exec, execSetleds, completeSetLeds]
  | scanset p => simp [exec, execScanset, completeScanSet_dark]
  | typematic rsvd delay rate => simp [exec, execTypematic, completeTypematic_dark]
  | echo => simp [exec, execEcho]
  | readid => simp [exec, execReadid]
  | enable => simp [exec, execEnable]
  | disable => simp [exec, execDisable]
  | reset => simp [exec, execReset]
  | setdefault => exact congrArg _ (setConfig_dark s Config.defaultDelayIdx Config.defaultRepeatIdx s.hostWait)
  | _ => rfl

/-- The host step reads no LED register and drives no LED event. -/
theorem hostStep_dark (s : State) : hostStep s.dark = onNext (hostStep s) State.dark := by
  simp only [hostStep, fetchCommand_dark, dark_rx]
  split <;> simp [exec_dark, onNext_onNext]

theorem parameterStep_dark (s : State) : parameterStep s.dark = onNext (parameterStep s) State.dark := by
  simp only [parameterStep, awaitBytes_dark, dark_rx, dark_hostWait]
  split <;> simp [completeParameter_dark, onNext_onNext]

/-! ### The keyboard step, whose confirmation and release ask for a blink -/

/-- In the dark a confirmation is its make bytes and the key registers (R183). -/
theorem dark_confirmPress (P : Config.Params) (t : Time) (p : Pos) (m : Mask) (bs : List Byte) (s : State) :
    (confirmPress P t p m bs s).dark = { (s.emit bs).dark with
      pressedPos := p, modsSnap := m, candPos := Config.noKey, ks := .pressed
      tmDeadline := timeAdd t (P.delayMs s.cfgDelayIdx) } := by
  let pressed : State := { s with pressedPos := p, modsSnap := m, candPos := Config.noKey, ks := .pressed }
  have hlit : (ledRequest P t (pressed.emit bs)).dark = (pressed.emit bs).dark := dark_ledRequest P t _
  have hcfg : (ledRequest P t (pressed.emit bs)).cfgDelayIdx = s.cfgDelayIdx := by simp [pressed]
  calc (confirmPress P t p m bs s).dark
      = { (ledRequest P t (pressed.emit bs)).dark with
          tmDeadline := timeAdd t (P.delayMs (ledRequest P t (pressed.emit bs)).cfgDelayIdx) } := rfl
    _ = _ := by rw [hlit, hcfg]; rfl

/-- In the dark a release is its break bytes and the key registers (R185). -/
theorem dark_releaseKey (P : Config.Params) (t : Time) (bs : List Byte) (s : State) :
    (releaseKey P t bs s).dark = { (s.emit bs).dark with pressedPos := Config.noKey, ks := .idle } := by
  calc (releaseKey P t bs s).dark
      = { (ledRequest P t (s.emit bs)).dark with pressedPos := Config.noKey, ks := .idle } := rfl
    _ = _ := by rw [dark_ledRequest]

theorem repeatKey_dark (P : Config.Params) (t : Time) (bs : List Byte) (s : State) :
    repeatKey P t bs s.dark = (repeatKey P t bs s).dark := by
  rw [repeatKey, emit_dark]
  exact setTmDeadline_dark (s.emit bs) (timeAdd t (P.repeatMs s.cfgRepeatIdx))

theorem rejectCandidate_dark (s : State) : rejectCandidate s.dark = (rejectCandidate s).dark := rfl

theorem onNext_withBytes (bs : Except Fault (List Byte)) (f : List Byte → State) (g : State → State) :
    onNext (withBytes bs f) g = withBytes bs fun b => g (f b) := by
  cases bs <;> rfl

theorem idleArm_dark (P : Config.Params) (t : Time) (s : State) :
    idleArm P t s.dark = onNext (idleArm P t s) State.dark := by
  simp only [idleArm, scanKey_dark, afterScan_dark]
  split
  · rfl
  · exact congrArg _ (setCandidate_dark (afterScan P s) (scanKey P s) (timeAdd t P.debounceMs))

theorem confirmArm_dark (P : Config.Params) (t : Time) (s : State) :
    onNext (confirmArm P t s.dark) State.dark = onNext (confirmArm P t s) State.dark := by
  simp only [confirmArm, scanKey_dark, scanMask_dark, afterScan_dark, dark_candPos]
  split
  · simp [onNext_withBytes, dark_confirmPress]
  · simp [rejectCandidate_dark]

theorem pressedArm_dark (P : Config.Params) (pol : Config.Policies) (t : Time) (s : State) :
    onNext (pressedArm P pol t s.dark) State.dark = onNext (pressedArm P pol t s) State.dark := by
  simp only [pressedArm, scanKey_dark, scanMask_dark, afterScan_dark, dark_pressedPos, dark_modsSnap, dark_tmDeadline]
  split
  · simp [onNext_withBytes, dark_releaseKey]
  · split
    · simp [onNext_withBytes, repeatKey_dark]
    · simp

/-- The arms of the keyboard step read no LED register; what a blink request does is not seen in the dark. -/
theorem kbdArms_dark (P : Config.Params) (pol : Config.Policies) (t : Time) (s : State) :
    onNext (kbdArms P pol t s.dark) State.dark = onNext (kbdArms P pol t s) State.dark := by
  cases hk : s.ks with
  | idle => simp [kbdArms, hk, idleArm_dark, onNext_onNext]
  | cand => cases hd : timeReached t s.debDeadline <;> simp [kbdArms, hk, hd, confirmArm_dark]
  | pressed => simp [kbdArms, hk, pressedArm_dark]
  | unused => simp [kbdArms, hk]

theorem kbdStep_dark (P : Config.Params) (pol : Config.Policies) (s : State) :
    onNext (kbdStep P pol s.dark) State.dark = onNext (kbdStep P pol s) State.dark := by
  cases ht : s.tracking P with
  | false => simp [kbdStep, ht]
  | true =>
    have harms := kbdArms_dark P pol s.readClock.now s.readClock
    rw [kbdStep_tracking (s := s.dark) ht, kbdStep_tracking ht, readClock_dark, dark_now]
    simpa [onNext_onNext] using congrArg (fun o => onNext o fun u => u.setPhase .host) harms

/-! ### A step in the dark -/

theorem phaseStep_dark (P : Config.Params) (s : State) :
    onNext (phaseStep P s.dark) State.dark = onNext (phaseStep P s) State.dark := by
  simp only [phaseStep, dark_phase]
  split
  · exact kbdStep_dark P Config.policies s
  · simp [hostStep_dark, onNext_onNext]
  · simp [diagStep, Config.policies]
  · simp [ledStep, ← setPhase_dark]

/-- What a step leads to is, in the dark, what it leads to from the dark. -/
theorem stepWith_dark (P : Config.Params) (s : State) :
    onNext (stepWith P s.dark) State.dark = onNext (stepWith P s) State.dark := by
  unfold stepWith
  split
  · by_cases hw : s.hostWait = .none
    · rw [subStep_ready hw, subStep_ready (s := s.dark) hw, phaseStep_dark]
    · rw [subStep_waiting hw, subStep_waiting (s := s.dark) hw, parameterStep_dark]
      simp [onNext_onNext]
  · rfl

/-- States that are the same in the dark step to states that are the same in the dark. -/
theorem stepWith_dark_congr {P : Config.Params} {s s' t : State} (hd : s'.dark = s.dark) (h : stepWith P s = .next t) :
    ∃ t', stepWith P s' = .next t' ∧ t'.dark = t.dark := by
  have hstep : onNext (stepWith P s') State.dark = .next t.dark := by
    rw [← stepWith_dark P s', hd, stepWith_dark, h, onNext_next]
  obtain ⟨t', ht', he⟩ := onNext_eq_next.mp hstep
  exact ⟨t', ht', he.symm⟩

/-- Settles O49: the two states are the same in the dark, and so are the states they step to. -/
theorem ledIsInvisibleToTheHost : Obligations.LedIsInvisibleToTheHost := by
  intro P s t on off next h
  obtain ⟨t', ht', hd⟩ :=
    stepWith_dark_congr (s := s) (s' := { s with ledOn := on, ledOffDl := off, ledNextDl := next }) rfl h
  exact ⟨t', ht', dark_eq_iff.mp hd⟩

end Sys2Proof.Machine
end

section
/-! PROOFS. The host's commands as bytes (spec/30_encoding.md R100 to R103, R111): the fields of the Set Typematic
parameter, what each row of the opcode map says of its command byte, and the decoder by the two formats. -/

namespace Sys2Proof

/-! ### The fields of the Set Typematic parameter (R103) -/

@[simp] theorem paramRate_typematicParam (rsvd : BitVec 1) (delay : BitVec 2) (rate : BitVec 5) :
    paramRate (typematicParam rsvd delay rate) = rate :=
  BitVec.extractLsb'_append_eq_right

@[simp] theorem paramDelay_typematicParam (rsvd : BitVec 1) (delay : BitVec 2) (rate : BitVec 5) :
    paramDelay (typematicParam rsvd delay rate) = delay := by
  have skipRate : paramDelay (typematicParam rsvd delay rate) = (rsvd ++ delay).extractLsb' 0 2 :=
    BitVec.extractLsb'_append_eq_of_le (by decide)
  rw [skipRate, BitVec.extractLsb'_append_eq_right]

@[simp] theorem paramRsvd_typematicParam (rsvd : BitVec 1) (delay : BitVec 2) (rate : BitVec 5) :
    paramRsvd (typematicParam rsvd delay rate) = rsvd := by
  have skipRate : paramRsvd (typematicParam rsvd delay rate) = (rsvd ++ delay).extractLsb' 2 1 :=
    BitVec.extractLsb'_append_eq_of_le (by decide)
  rw [skipRate, BitVec.extractLsb'_append_eq_left]

/-- The three fields are the whole byte. -/
@[simp] theorem typematicParam_of_fields (p : Byte) :
    typematicParam (paramRsvd p) (paramDelay p) (paramRate p) = p := by
  have upper : paramRsvd p ++ paramDelay p = p.extractLsb' 5 3 :=
    BitVec.extractLsb'_append_extractLsb'_eq_extractLsb' rfl
  have whole : p.extractLsb' 5 3 ++ paramRate p = p.extractLsb' 0 8 :=
    BitVec.extractLsb'_append_extractLsb'_eq_extractLsb' rfl
  rw [typematicParam, upper, whole, BitVec.extractLsb'_eq_self]

/-! ### What the opcode map says of a command byte (R101, R111) -/

/-- A byte outside the map is the whole command BYTE. -/
theorem formatOf_unrecognised {b : Byte} (h : recognised b = false) : formatOf b = .cmd (.byte b) := by
  rcases formatOf_cases b with ⟨_, hf⟩ | ⟨hr, _⟩
  · exact hf
  · simp [h] at hr

/-- The Set Typematic command reads the three fields of its parameter (R103). -/
theorem formatOf_typematic :
    formatOf 0xF3 = .cmdp fun p => .typematic (paramRsvd p) (paramDelay p) (paramRate p) := rfl

/-- The CMDP command bytes are 0xED, 0xF0 and 0xF3 (R102). -/
theorem formatOf_cmdp_iff (b : Byte) :
    (∃ mk, formatOf b = .cmdp mk) ↔ b = 0xED ∨ b = 0xF0 ∨ b = 0xF3 := by
  constructor
  · rintro ⟨mk, hf⟩
    exact formatOf_cmdp hf
  · rintro (rfl | rfl | rfl) <;> exact ⟨_, rfl⟩

/-- The format `f` gives well-formed commands only, and their encodings are those of command byte `b`. -/
def Format.EncodedBy (b : Byte) : Format → Prop
  | .cmd i => i.wellFormed = true ∧ encode i = [b]
  | .cmdp mk => ∀ p, (mk p).wellFormed = true ∧ encode (mk p) = [b, p]

/-- Every row of the map agrees with the encoder. -/
theorem encodedBy_of_mem_opcodeMap {row : Byte × Format} (h : row ∈ opcodeMap) : row.2.EncodedBy row.1 := by
  simp only [opcodeMap, List.mem_cons, List.not_mem_nil, or_false] at h
  rcases h with rfl | rfl | rfl | rfl | rfl | rfl | rfl | rfl | rfl | rfl | rfl | rfl | rfl | rfl | rfl | rfl | rfl <;>
    simp [Format.EncodedBy, Instr.wellFormed, encode]

/-- The format of any byte agrees with the encoder: BYTE stands for the bytes outside the map. -/
theorem formatOf_encodedBy (b : Byte) : (formatOf b).EncodedBy b := by
  rcases formatOf_cases b with ⟨hr, hf⟩ | ⟨_, row, hm, rfl, hf⟩
  · rw [hf]
    exact ⟨by simp [Instr.wellFormed, hr], rfl⟩
  · rw [hf]
    exact encodedBy_of_mem_opcodeMap hm

theorem encodedBy_cmd {b : Byte} {i : Instr} (hf : formatOf b = .cmd i) : i.wellFormed = true ∧ encode i = [b] := by
  simpa [hf, Format.EncodedBy] using formatOf_encodedBy b

theorem encodedBy_cmdp {b : Byte} {mk : Byte → Instr} (hf : formatOf b = .cmdp mk) (p : Byte) :
    (mk p).wellFormed = true ∧ encode (mk p) = [b, p] := by
  have hb := formatOf_encodedBy b
  rw [hf] at hb
  exact hb p

/-! ### The decoder by the two formats (R100, R102) -/

theorem decode_cmd {b : Byte} {i : Instr} (hf : formatOf b = .cmd i) (rest : List Byte) :
    decode (b :: rest) = .ok (i, rest) := by
  simp [decode, hf]

theorem decode_cmdp {b : Byte} {mk : Byte → Instr} (hf : formatOf b = .cmdp mk) (p : Byte) (rest : List Byte) :
    decode (b :: p :: rest) = .ok (mk p, rest) := by
  simp [decode, hf]

theorem decode_cmdp_alone {b : Byte} {mk : Byte → Instr} (hf : formatOf b = .cmdp mk) :
    decode [b] = .error (.awaitsParameter b) := by
  simp [decode, hf]

/-- A decoded command is the one of its command byte's format, with the next byte if the format takes one. -/
theorem decode_ok {bs rest : List Byte} {i : Instr} (h : decode bs = .ok (i, rest)) :
    (∃ b, formatOf b = .cmd i ∧ bs = b :: rest) ∨
    (∃ b mk p, formatOf b = .cmdp mk ∧ i = mk p ∧ bs = b :: p :: rest) := by
  cases bs with
  | nil => simp [decode] at h
  | cons b tail =>
    cases hf : formatOf b with
    | cmd j =>
      rw [decode_cmd hf] at h
      cases h
      exact .inl ⟨b, hf, rfl⟩
    | cmdp mk =>
      cases tail with
      | nil => simp [decode_cmdp_alone hf] at h
      | cons p tail =>
        rw [decode_cmdp hf] at h
        cases h
        exact .inr ⟨b, mk, p, hf, rfl, rfl⟩

/-! ### The statements -/

/-- Settles O1, by the command: the byte of its row gives its format, the fields of a Set Typematic parameter are read
back, and a well-formed BYTE is outside the map. -/
theorem decodeEncodeAgree : Obligations.DecodeEncodeAgree := by
  intro i rest hwf
  cases i with
  | setleds p | scanset p => exact decode_cmdp rfl p rest
  | typematic rsvd delay rate =>
    simpa [encode] using decode_cmdp formatOf_typematic (typematicParam rsvd delay rate) rest
  | byte b =>
    have hr : recognised b = false := by simpa [Instr.wellFormed] using hwf
    exact decode_cmd (formatOf_unrecognised hr) rest
  | echo | readid | enable | disable | setdefault | alltypem | allmb | allmake | alltmb | keytypem | keymb | keymake
  | resend | reset => exact decode_cmd rfl rest

/-- Settles O2: in both formats the command read agrees with the encoder. -/
theorem decodeTakesExactlyTheEncoding : Obligations.DecodeTakesExactlyTheEncoding := by
  intro bs rest i h
  rcases decode_ok h with ⟨b, hf, rfl⟩ | ⟨b, mk, p, hf, rfl, rfl⟩
  · obtain ⟨hwf, henc⟩ := encodedBy_cmd hf
    exact ⟨hwf, by rw [henc]; rfl⟩
  · obtain ⟨hwf, henc⟩ := encodedBy_cmdp hf p
    exact ⟨hwf, by rw [henc]; rfl⟩

/-- Settles O3: the CMDP bytes are those of the map's rows with a parameter. -/
theorem lengthFollowsFromCommandByte : Obligations.LengthFollowsFromCommandByte := by
  intro b rest
  rw [← formatOf_cmdp_iff]
  constructor
  · rintro ⟨mk, hf⟩
    exact ⟨decode_cmdp_alone hf, fun p => ⟨mk p, decode_cmdp hf p rest, (encodedBy_cmdp hf p).2⟩⟩
  · intro hone
    cases hf : formatOf b with
    | cmd i => exact ⟨i, decode_cmd hf rest, (encodedBy_cmd hf).2⟩
    | cmdp mk => exact absurd ⟨mk, hf⟩ hone

/-- Settles O4: each byte's format is its row of the map, and 0xF1 has no row. -/
theorem opcodeMapWords : Obligations.OpcodeMapWords := by
  intro p rest
  exact ⟨decode_cmdp rfl p rest, decode_cmdp rfl p rest, decode_cmdp formatOf_typematic p rest,
    decode_cmd rfl rest, decode_cmd rfl rest, decode_cmd rfl rest, decode_cmd rfl rest,
    decode_cmd (formatOf_unrecognised rfl) rest⟩

end Sys2Proof
end

section
/-! PROOFS. The poll loop (spec/40_control_loop.md R140 to R145): what a sub-step is in each PHASE, which bytes the host step
takes off RX, the order of the sub-steps, and that a block in the invariant of R48 always goes on. -/

namespace Sys2Proof

/-! ### The bytes of a command (R102) -/

theorem commandLength_cmd {b : Byte} {i : Instr} (hf : formatOf b = .cmd i) : commandLength b = 1 := by
  have hone : ¬ (b = 0xED ∨ b = 0xF0 ∨ b = 0xF3) := by rw [← formatOf_cmdp_iff, hf]; simp
  obtain ⟨hED, hF0, hF3⟩ : b ≠ 0xED ∧ b ≠ 0xF0 ∧ b ≠ 0xF3 := by simpa only [not_or] using hone
  rw [commandLength, if_neg hED, if_neg hF0, if_neg hF3]

theorem commandLength_cmdp {b : Byte} {mk : Byte → Instr} (hf : formatOf b = .cmdp mk) : commandLength b = 2 := by
  rcases formatOf_cmdp hf with rfl | rfl | rfl <;> rfl

/-- A decoded command takes as many bytes as its command byte says, and they are there. -/
theorem decode_takes_commandLength {bs rest : List Byte} {i : Instr} (h : decode bs = .ok (i, rest)) :
    ∃ b tail, bs = b :: tail ∧ commandLength b ≤ bs.length ∧ rest = tail.drop (commandLength b - 1) := by
  rcases decode_ok h with ⟨b, hf, rfl⟩ | ⟨b, mk, p, hf, rfl, rfl⟩
  · exact ⟨b, rest, rfl, by simp [commandLength_cmd hf], by simp [commandLength_cmd hf]⟩
  · exact ⟨b, p :: rest, rfl, by simp [commandLength_cmdp hf], by simp [commandLength_cmdp hf]⟩

namespace Machine

/-! ### The sub-step of each PHASE (R140) -/

section
variable {P : Config.Params} {s : State} (hw : s.hostWait = .none)
include hw

theorem subStep_kbd (hp : s.phase = .kbd) : subStep P s = kbdStep P Config.policies s := by
  simp [subStep_ready hw, phaseStep, hp]

theorem subStep_host (hp : s.phase = .host) : subStep P s = hostStep s := by
  simp [subStep_ready hw, phaseStep, hp]

/-- DIAG_PRESENT is false, so the diagnostic sub-step is empty (R311). -/
theorem subStep_diag (hp : s.phase = .diag) : subStep P s = .next (s.setPhase .led) := by
  simp [subStep_ready hw, phaseStep, hp, diagStep, Config.policies]

theorem subStep_led (hp : s.phase = .led) :
    subStep P s = .next ((ledDecay s.readClock.now s.readClock).setPhase .kbd) := by
  simp [subStep_ready hw, phaseStep, hp, ledStep]

end

/-- Settles O25: the machine's step is the sub-step at its own parameters. -/
theorem stepFollowsPhase : Obligations.StepFollowsPhase :=
  fun _ hw => ⟨subStep_kbd hw, subStep_host hw, subStep_diag hw, subStep_led hw⟩

/-! ### The command the host step runs (R143, R250) -/

theorem hostStep_of_decode {s : State} {i : Instr} {rest : List Byte} (h : decode s.fetchCommand.rx = .ok (i, rest)) :
    hostStep s = onNext (exec i (s.fetchCommand.takeRx rest)) fun t => t.setPhase .diag := by
  simp [hostStep, h]

/-- Settles O16: a command that decodes is whole, so its fetch asks nothing of the host. -/
theorem stepRunsDecodedInstruction : Obligations.StepRunsDecodedInstruction := by
  rintro s i rest ⟨hp, hw⟩
  refine ⟨fun hd => ?whole, fun hd => ?run⟩
  case whole =>
    obtain ⟨b, tail, hrx, hlen, -⟩ := decode_takes_commandLength hd
    exact State.fetchCommand_of_whole hrx hlen
  case run => exact (subStep_host hw hp).trans (hostStep_of_decode hd)

/-- Once the first byte is there, fetching consults the transport for the rest of its command. -/
theorem State.fetchCommand_of_first {s : State} {b : Byte} {more : List Byte} (h : (s.awaitBytes 1).rx = b :: more) :
    s.fetchCommand = (s.awaitBytes 1).awaitBytes (commandLength b) := by
  simp [State.fetchCommand, h]

/-- A byte that the host adds during the fetch belongs to the command: the bytes after the command are those that stood
there before. -/
theorem State.fetchCommand_rx_after_command {s : State} {b : Byte} {more : List Byte}
    (h : (s.awaitBytes 1).rx = b :: more) :
    ∃ tail, s.fetchCommand.rx = b :: tail ∧ tail.drop (commandLength b - 1) = more.drop (commandLength b - 1) := by
  rw [State.fetchCommand_of_first h]
  rcases (s.awaitBytes 1).awaitBytes_rx (commandLength b) with hr | ⟨hshort, c, -, hr⟩
  · exact ⟨more, hr.trans h, rfl⟩
  · rw [h, List.length_cons] at hshort
    refine ⟨more ++ [c], by rw [hr, h]; rfl, ?_⟩
    have hmore : more.drop (commandLength b - 1) = [] := List.drop_eq_nil_of_le (by omega)
    have htail : (more ++ [c]).drop (commandLength b - 1) = [] := List.drop_eq_nil_of_le (by simp; omega)
    rw [hmore, htail]

/-- The host step leaves on RX what follows the command it fetched. -/
theorem HostMove.rx {s t : State} {b : Byte} {tail : List Byte} (h : HostMove s t) (hrx : s.fetchCommand.rx = b :: tail) :
    t.rx = tail.drop (commandLength b - 1) := by
  cases h with
  | run i rest u hd hu =>
    obtain ⟨b', tail', hbytes, -, hrest⟩ := decode_takes_commandLength hd
    obtain ⟨rfl, rfl⟩ := List.cons.inj (hrx.symm.trans hbytes)
    have hu_rx : u.rx = rest := replied_rx (exec_cases hu).1
    simpa [hu_rx] using hrest
  | nothing hnil => simp [hnil] at hrx
  | hold b' hlone _ =>
    obtain ⟨-, rfl⟩ := List.cons.inj (hrx.symm.trans hlone)
    simp

/-- Settles O18: the bytes of the fetched command leave RX, and no others. -/
theorem hostStepTakesOneCommand : Obligations.HostStepTakesOneCommand := by
  rintro s t b more ⟨hp, hw⟩ hrx hstep
  obtain ⟨tail, hfetched, hafter⟩ := State.fetchCommand_rx_after_command hrx
  have hhost : hostStep s = .next t := (subStep_host hw hp).symm.trans hstep
  exact ((hostStep_cases hhost).rx hfetched).trans hafter

/-! ### The order of the sub-steps (R31, R140) -/

/-- The parameter awaited by a CMDP command byte is one of the three (R47). -/
theorem waitOf_ne_none {b : Byte} (h : b = 0xED ∨ b = 0xF0 ∨ b = 0xF3) : waitOf b ≠ .none := by
  rcases h with rfl | rfl | rfl <;> decide

/-- After the host step either the diagnostic sub-step is next, or a parameter is awaited. -/
theorem HostMove.phase_and_wait {s t : State} (h : HostMove s t) (hw : s.hostWait = .none) :
    (t.phase = .diag ∧ t.hostWait = .none) ∨ (t.phase = .host ∧ t.hostWait ≠ .none) := by
  cases h with
  | run i rest u _ hu =>
    have hwait : u.hostWait = .none := (exec_cases hu).2.elim id fun hk => by simpa [hw] using hk
    exact .inl ⟨rfl, hwait⟩
  | nothing _ => exact .inl ⟨rfl, by simpa using hw⟩
  | hold b _ hb => exact .inr ⟨rfl, waitOf_ne_none hb⟩

/-- Settles O26, by PHASE: the sub-step there sets PHASE, and only the host step and a completion write HOST_WAIT. -/
theorem phaseCycle : Obligations.PhaseCycle := by
  intro P s t h
  have hsub : subStep P s = .next t := (stepWith_eq_next.mp h).2
  refine ⟨fun hw hp => ?kbd, fun ⟨hp, hw⟩ => ?host, fun hw hp => ?diag, fun hw hp => ?led, fun hw => ?held⟩
  case kbd =>
    rw [subStep_kbd hw hp] at hsub
    obtain ⟨-, u, hu, rfl⟩ := kbdStep_cases hsub
    exact ⟨rfl, hu.keeps_host.hostWait.trans hw⟩
  case host =>
    rw [subStep_host hw hp] at hsub
    exact (hostStep_cases hsub).phase_and_wait hw
  case diag =>
    rw [subStep_diag hw hp] at hsub
    cases hsub
    exact ⟨rfl, hw⟩
  case led =>
    rw [subStep_led hw hp] at hsub
    cases hsub
    exact ⟨rfl, by simpa using hw⟩
  case held =>
    rw [subStep_waiting hw] at hsub
    rcases parameterStep_cases hsub with ⟨-, rfl⟩ | ⟨p, rest, u, -, hu, rfl⟩
    · exact .inl ⟨by simp, by simp⟩
    · exact .inr ⟨rfl, (completeParameter_cases hw hu).2⟩

/-! ### The block never halts (R145) -/

/-- Under the invariant a sub-step goes on: the keyboard step faults only where R48 fails, and the others never stop. -/
theorem State.Inv.step_goes_on {P : Config.Params} {s : State} (hi : s.Inv P) (ha : P.admitted = true) :
    ∃ t, stepWith P s = .next t := by
  rw [stepWith_admitted ha]
  by_cases hw : s.hostWait = .none
  · cases hp : s.phase with
    | kbd =>
      obtain ⟨-, -, hgood⟩ := keyboardStepFaults P Config.policies s
      rw [subStep_kbd hw hp]
      exact hgood hi.tracking hi.keyState
    | host => rw [subStep_host hw hp]; exact hostStep_goes_on s
    | diag => exact ⟨_, subStep_diag hw hp⟩
    | led => exact ⟨_, subStep_led hw hp⟩
  · rw [subStep_waiting hw]
    exact parameterStep_goes_on s

/-- The invariant holds along every run that starts in it. -/
theorem Steps.inv {P : Config.Params} {s t : State} (h : Steps P s t) (hi : s.Inv P) : t.Inv P := by
  induction h with
  | refl => exact hi
  | tail _ hstep ih => exact stepKeepsInvariant P _ _ ih hstep

/-- A poll whose host step ends in a hold ends there (R144). -/
theorem pollWith_held {P : Config.Params} {s s₁ s₂ : State} (h₁ : stepWith P s = .next s₁)
    (h₂ : stepWith P s₁ = .next s₂) (hw : s₂.hostWait ≠ .none) : pollWith P s = .next s₂ := by
  simp [pollWith, andThen, h₁, h₂, hw]

/-- A poll without a hold is its four sub-steps (R140). -/
theorem pollWith_whole {P : Config.Params} {s s₁ s₂ s₃ s₄ : State} (h₁ : stepWith P s = .next s₁)
    (h₂ : stepWith P s₁ = .next s₂) (hw : s₂.hostWait = .none) (h₃ : stepWith P s₂ = .next s₃)
    (h₄ : stepWith P s₃ = .next s₄) : pollWith P s = .next s₄ := by
  simp [pollWith, andThen, h₁, h₂, hw, h₃, h₄]

/-- A poll from the keyboard step is a run to the next keyboard step, or to a hold in the host step. -/
theorem State.Inv.poll_ends {P : Config.Params} {s : State} (hi : s.Inv P) (ha : P.admitted = true) (hs : s.atKeyboard) :
    ∃ u, pollWith P s = .next u ∧ Steps P s u ∧ (u.atKeyboard ∨ (u.phase = .host ∧ u.hostWait ≠ .none)) := by
  have goes_on {t : State} (ht : Steps P s t) : ∃ u, stepWith P t = .next u := (ht.inv hi).step_goes_on ha
  obtain ⟨hkbd, hready⟩ := hs
  obtain ⟨s₁, h₁⟩ := goes_on .refl
  have run₁ : Steps P s s₁ := .tail .refl h₁
  obtain ⟨after_kbd, -⟩ := phaseCycle P s s₁ h₁
  obtain ⟨s₂, h₂⟩ := goes_on run₁
  have run₂ : Steps P s s₂ := .tail run₁ h₂
  obtain ⟨-, after_host, -⟩ := phaseCycle P s₁ s₂ h₂
  rcases after_host (after_kbd hready hkbd) with ⟨hdiag, hnone⟩ | ⟨hhost, hawaits⟩
  · obtain ⟨s₃, h₃⟩ := goes_on run₂
    have run₃ : Steps P s s₃ := .tail run₂ h₃
    obtain ⟨-, -, after_diag, -⟩ := phaseCycle P s₂ s₃ h₃
    obtain ⟨hled, hnone₃⟩ := after_diag hnone hdiag
    obtain ⟨s₄, h₄⟩ := goes_on run₃
    obtain ⟨-, -, -, after_led, -⟩ := phaseCycle P s₃ s₄ h₄
    exact ⟨s₄, pollWith_whole h₁ h₂ hnone h₃ h₄, .tail run₃ h₄, .inl (after_led hnone₃ hled)⟩
  · exact ⟨s₂, pollWith_held h₁ h₂ hawaits, run₂, .inr ⟨hhost, hawaits⟩⟩

/-- Settles O57: a run stays in the invariant, from which every step goes on and every poll ends. -/
theorem blockNeverHalts : Obligations.BlockNeverHalts := by
  intro P s t ha hi hrun
  have hti : t.Inv P := hrun.inv hi
  refine ⟨hti.step_goes_on ha, fun hk => ?_⟩
  obtain ⟨u, hpoll, hsteps, hend⟩ := hti.poll_ends ha hk
  exact ⟨u, hpoll, hsteps, hsteps.inv hti, hend⟩

end Machine

end Sys2Proof
end

section
/-! PROOFS. The matrix scanner (spec/41_scanner.md R160 to R168): the key its samples report is the least one they show, the
mask is that of the samples, and SCAN changes nothing beyond COL_SEL, MODS_LIVE, the agent's answers and the observation. -/

namespace Sys2Proof.Machine

/-! ### The keys that samples show (R163, R164) -/

/-- No samples show no key. -/
@[simp] theorem not_keyShown_nil (P : Config.Params) (c : Fin 10) (r : Fin 8) : ¬ keyShown P [] c r := by
  simp [keyShown]

/-- A key is shown by the first sample, in a row left pressed after the masking, or by a later one. -/
theorem keyShown_cons {P : Config.Params} {c c' : Fin 10} {r : Fin 8} {rows : Byte} {xs : List Sample} :
    keyShown P ((c, rows) :: xs) c' r ↔
      (c' = c ∧ rowPressed (maskModifiers P c rows) r = true) ∨ keyShown P xs c' r := by
  rw [rowPressed_maskModifiers, rowPressed_eq_true]
  simp only [keyShown, List.mem_cons, Prod.mk.injEq]
  constructor
  · rintro ⟨⟨rows', ⟨rfl, rfl⟩ | hmem, hrow⟩, hkey⟩
    · exact .inl ⟨rfl, hrow, hkey⟩
    · exact .inr ⟨⟨rows', hmem, hrow⟩, hkey⟩
  · rintro (⟨rfl, hrow, hkey⟩ | ⟨⟨rows', hmem, hrow⟩, hkey⟩)
    · exact ⟨⟨rows, .inl ⟨rfl, rfl⟩, hrow⟩, hkey⟩
    · exact ⟨⟨rows', .inr hmem, hrow⟩, hkey⟩

/-- A shown key's column is one of the sampled columns. -/
theorem keyShown_column {P : Config.Params} {xs : List Sample} {c : Fin 10} {r : Fin 8} (h : keyShown P xs c r) :
    c ∈ xs.map Prod.fst := by
  obtain ⟨⟨rows, hmem, -⟩, -⟩ := h
  exact List.mem_map_of_mem hmem

/-! ### The reported key is the least one shown (R165) -/

/-- In one column the packed positions are ordered as the rows. -/
theorem posOf_le_of_row_le (c : Fin 10) {r r' : Fin 8} (h : r ≤ r') : (posOf c r).toNat ≤ (posOf c r').toNat := by
  rw [posOf_toNat, posOf_toNat]; omega

/-- A key of an earlier column has the smaller packed position, whatever the rows. -/
theorem posOf_le_of_col_lt {c c' : Fin 10} (r r' : Fin 8) (h : c < c') : (posOf c r).toNat ≤ (posOf c' r').toNat := by
  rw [posOf_toNat, posOf_toNat]; omega

/-- What the key search answers on samples of ascending columns: NO_KEY if they show no key, and otherwise the least key
that they show. -/
theorem scanPos_cases (P : Config.Params) {xs : List Sample} (hasc : (xs.map Prod.fst).Pairwise (· < ·)) :
    (scanPos P xs = Config.noKey ∧ ∀ c r, ¬ keyShown P xs c r) ∨
    (∃ c r, keyShown P xs c r ∧ scanPos P xs = posOf c r ∧
      ∀ c' r', keyShown P xs c' r' → (posOf c r).toNat ≤ (posOf c' r').toNat) := by
  induction xs with
  | nil => exact .inl ⟨rfl, by simp⟩
  | cons x xs ih =>
    obtain ⟨c, rows⟩ := x
    obtain ⟨hbefore, htail⟩ := List.pairwise_cons.mp hasc
    cases hfirst : firstRow (maskModifiers P c rows) with
    | none =>
      have hskip : scanPos P ((c, rows) :: xs) = scanPos P xs := by simp [scanPos, hfirst]
      have hshown (c' : Fin 10) (r' : Fin 8) : keyShown P ((c, rows) :: xs) c' r' ↔ keyShown P xs c' r' := by
        simp [keyShown_cons, firstRow_none.mp hfirst]
      simpa only [hskip, hshown] using ih htail
    | some r =>
      have hfound : scanPos P ((c, rows) :: xs) = posOf c r := by simp [scanPos, hfirst]
      refine .inr ⟨c, r, keyShown_cons.mpr (.inl ⟨rfl, firstRow_pressed hfirst⟩), hfound, fun c' r' hshown => ?_⟩
      rcases keyShown_cons.mp hshown with ⟨rfl, hpressed⟩ | hlater
      · exact posOf_le_of_row_le c' (firstRow_least hfirst hpressed)
      · exact posOf_le_of_col_lt r r' (hbefore c' (keyShown_column hlater))

/-- SCAN visits the columns in ascending order (R161). -/
theorem scanOrder_ascending : scanOrder.Pairwise (· < ·) := by decide

/-- Settles O28: the ten columns are sampled in ascending order, so the first key found is the least. -/
theorem scanReportsLowestKey : Obligations.ScanReportsLowestKey := by
  intro P s xs
  have hcols : xs.map Prod.fst = scanOrder := samplesOf_columns scanOrder s
  refine ⟨hcols, ?_⟩
  rcases scanPos_cases P (xs := xs) (hcols ▸ scanOrder_ascending) with hnone | ⟨c, r, hshown, hpos, hleast⟩
  · exact .inl hnone
  · have hkey : scanKey P s = posOf c r := hpos
    exact .inr ⟨c, r, hshown, hkey, hkey ▸ hleast⟩

/-! ### The mask (R164, R166) -/

/-- Each bit of a mask is the one it is built from (R35): the eight masks, one by one. -/
theorem getLsbD_maskOf (ctrl lshift rshift : Bool) :
    (maskOf ctrl lshift rshift).getLsbD 0 = ctrl ∧ (maskOf ctrl lshift rshift).getLsbD 1 = lshift ∧
      (maskOf ctrl lshift rshift).getLsbD 2 = rshift := by
  revert ctrl lshift rshift
  decide

/-- The test of a modifier's row bit finds exactly the modifiers that the samples show. -/
theorem modifierDown_iff {k : Config.KeyAt} {xs : List Sample} : modifierDown k xs = true ↔ modifierShown xs k := by
  simp only [modifierDown, modifierShown, List.any_eq_true, Bool.and_eq_true, decide_eq_true_eq, rowPressed_eq_true]
  constructor
  · rintro ⟨⟨c, rows⟩, hmem, rfl, hrow⟩
    exact ⟨rows, hmem, hrow⟩
  · rintro ⟨rows, hmem, hrow⟩
    exact ⟨(k.col, rows), hmem, rfl, hrow⟩

/-- Settles O29: each bit of the mask is the test of its own modifier. -/
theorem scanMaskIsFresh : Obligations.ScanMaskIsFresh := by
  intro P s xs
  obtain ⟨hctrl, hlshift, hrshift⟩ : (scanMask P s).getLsbD 0 = modifierDown P.posCtrl xs ∧
      (scanMask P s).getLsbD 1 = modifierDown P.posLShift xs ∧
      (scanMask P s).getLsbD 2 = modifierDown P.posRShift xs := getLsbD_maskOf _ _ _
  rw [hctrl, hlshift, hrshift]
  exact ⟨afterScan_modsLive P s, modifierDown_iff, modifierDown_iff, modifierDown_iff⟩

/-! ### What SCAN changes (R160, R161, R167) -/

/-- SCAN adds to the observation what its samples add, and then the idle code (R167). -/
theorem afterScan_trace (P : Config.Params) (s : State) :
    (afterScan P s).trace = (afterSamples scanOrder s).trace ++ [.colSel Config.colIdle] := rfl

/-- Settles O30, by what sampling adds to the observation. -/
theorem scanDrivesTenColumns : Obligations.ScanDrivesTenColumns := by
  intro P s
  refine ⟨samplesOf_columns scanOrder s, ?_, afterScan_colSel P s⟩
  rw [afterScan_trace, afterSamples_trace]
  rfl

/-- SCAN is the sampling of ten columns, framed by `afterSamples_frame`, with COL_SEL, the observation and MODS_LIVE
written after it. -/
theorem afterScan_frame (P : Config.Params) (s : State) :
    afterScan P s = { s with
      modsLive := scanMask P s
      colSel := Config.colIdle
      trace := (afterScan P s).trace
      rowScript := s.rowScript.drop 10
      draws := s.draws + (10 - s.rowScript.length) } := by
  obtain ⟨col, events, hsampled⟩ : ∃ col events, afterSamples scanOrder s = { s with
      colSel := col
      trace := events
      rowScript := s.rowScript.drop 10
      draws := s.draws + (10 - s.rowScript.length) } := ⟨_, _, afterSamples_frame scanOrder s⟩
  rw [afterScan, hsampled]
  rfl

/-- Settles O31, by the frame of SCAN and what its samples read. -/
theorem scanFrame : Obligations.ScanFrame :=
  fun P s => ⟨afterScan_frame P s, samplesOf_rows scanOrder s⟩

end Sys2Proof.Machine
end

section
/-! PROOFS. The debounce/typematic machine (spec/42_debounce_typematic.md R180 to R190): the arm that runs in each case, as
a whole next state; what a step keeps of the key registers; the debounce, rollover and typematic laws over runs; and the
keyboard step's independence of the host side. -/

namespace Sys2Proof.Machine

/-! ### The arms, case by case (R181 to R187) -/

section
variable {P : Config.Params} {pol : Config.Policies} {t : Time} {s : State}

theorem idleArm_noKey (h : scanKey P s = Config.noKey) : idleArm P t s = .next (afterScan P s) := by
  simp [idleArm, h]

theorem idleArm_key (h : s.kbdKey P ≠ Config.noKey) :
    idleArm P t s.readClock = .next { s.scanned P with
      candPos := s.kbdKey P, debDeadline := timeAdd t P.debounceMs, ks := .cand } := by
  rw [State.kbdKey] at h
  simp only [idleArm, if_neg h, State.scanned, State.kbdKey]

theorem confirmArm_equal {bs : List Byte} (h : scanKey P s = s.candPos)
    (hb : makeSeq P s.candPos (scanMask P s) = .ok bs) :
    confirmArm P t s = .next (confirmPress P t s.candPos (scanMask P s) bs (afterScan P s)) := by
  simp [confirmArm, h, hb, withBytes]

theorem confirmArm_unequal (h : scanKey P s ≠ s.candPos) :
    confirmArm P t s = .next (rejectCandidate (afterScan P s)) := by
  simp [confirmArm, h]

theorem pressedArm_noKey {bs : List Byte} (h : scanKey P s = Config.noKey)
    (hb : breakSeq P s.pressedPos (policyMask pol.breakMods (scanMask P s) s.modsSnap) = .ok bs) :
    pressedArm P pol t s = .next (releaseKey P t bs (afterScan P s)) := by
  simp [pressedArm, h, hb, withBytes]

theorem pressedArm_due {bs : List Byte} (h : scanKey P s ≠ Config.noKey) (ht : timeReached t s.tmDeadline = true)
    (hb : repeatSeq P s.pressedPos (policyMask pol.repeatMods (scanMask P s) s.modsSnap) = .ok bs) :
    pressedArm P pol t s = .next (repeatKey P t bs (afterScan P s)) := by
  simp [pressedArm, h, ht, hb, withBytes]

theorem pressedArm_early (h : scanKey P s ≠ Config.noKey) (ht : timeReached t s.tmDeadline = false) :
    pressedArm P pol t s = .next (afterScan P s) := by
  simp [pressedArm, h, ht]

/-- While R48 holds, the keyboard step ends where its arms end, with PHASE at HOST. -/
theorem kbdStep_of_arms {u : State} (ht : s.tracking P = true) (h : kbdArms P pol s.tKbd s.readClock = .next u) :
    kbdStep P pol s = .next (u.setPhase .host) := by
  rw [kbdStep_tracking ht]
  exact congrArg (onNext · fun u => u.setPhase .host) h

theorem kbdStep_idle {u : State} (hk : s.ks = .idle) (ht : s.tracking P = true)
    (h : idleArm P s.tKbd s.readClock = .next u) : kbdStep P pol s = .next (u.setPhase .host) :=
  kbdStep_of_arms ht (by simpa [kbdArms, hk] using h)

theorem kbdStep_cand_early (hk : s.ks = .cand) (ht : s.tracking P = true) (hd : s.tKbd.toNat < s.debDeadline.toNat) :
    kbdStep P pol s = .next (s.readClock.setPhase .host) :=
  kbdStep_of_arms ht (by simp [kbdArms, hk, timeReached_eq_false.mpr hd])

theorem kbdStep_cand_due {u : State} (hk : s.ks = .cand) (ht : s.tracking P = true)
    (hd : s.debDeadline.toNat ≤ s.tKbd.toNat) (h : confirmArm P s.tKbd s.readClock = .next u) :
    kbdStep P pol s = .next (u.setPhase .host) :=
  kbdStep_of_arms ht (by simpa [kbdArms, hk, timeReached_iff.mpr hd] using h)

theorem kbdStep_pressed {u : State} (hk : s.ks = .pressed) (ht : s.tracking P = true)
    (h : pressedArm P pol s.tKbd s.readClock = .next u) : kbdStep P pol s = .next (u.setPhase .host) :=
  kbdStep_of_arms ht (by simpa [kbdArms, hk] using h)

/-- The sequences of a tracked position are looked up without a fault (R211). -/
theorem withWord_tracked {p : Pos} (m : Mask) (f : RomWord → List Byte) (h : keyTracked P p = true) :
    ∃ bs, withWord (lookup P p m) f = .ok bs := by
  obtain ⟨e, he⟩ := lookup_tracked m h
  exact ⟨f e, withWord_eq_ok.mpr ⟨e, he, rfl⟩⟩

end

/-- A LED request reads no key register, so a confirmation's registers may be written after it (R183). -/
theorem confirmPress_eq (P : Config.Params) (t : Time) (p : Pos) (m : Mask) (bs : List Byte) (s : State) :
    confirmPress P t p m bs s = { ledRequest P t (s.emit bs) with
      pressedPos := p, modsSnap := m, candPos := Config.noKey, ks := .pressed
      tmDeadline := timeAdd t (P.delayMs s.cfgDelayIdx) } := by
  cases h : timeReached t s.ledNextDl <;> simp [confirmPress, ledRequest, State.emit, h]

/-! ### The keyboard step as a whole next state -/

/-- Settles O32: the two branches of the IDLE arm. -/
theorem idleArmsCandidate : Obligations.IdleArmsCandidate := by
  refine fun P pol s hk ht => ⟨fun hkey => ?none, fun hkey => ?key⟩
  case none =>
    have harm : idleArm P s.tKbd s.readClock = .next (s.scanned P) := idleArm_noKey hkey
    exact kbdStep_idle hk ht harm
  case key => exact kbdStep_idle hk ht (idleArm_key hkey)

/-- Settles O33: before the deadline the CAND arm returns the state it is given. -/
theorem candidateWaits : Obligations.CandidateWaits :=
  fun _ _ _ => kbdStep_cand_early

/-- Settles O35: the re-scan differs, so CONFIRM_ARM rejects. -/
theorem unequalRescanRejects : Obligations.UnequalRescanRejects := by
  intro P pol s hk ht hdue hne
  have harm : confirmArm P s.tKbd s.readClock = .next (rejectCandidate (s.scanned P)) := confirmArm_unequal hne
  exact kbdStep_cand_due hk ht hdue harm

/-- Settles O38: neither a release nor a repeat is due. -/
theorem heldKeyBeforeDeadline : Obligations.HeldKeyBeforeDeadline := by
  intro P pol s hk ht hkey hearly
  have harm : pressedArm P pol s.tKbd s.readClock = .next (s.scanned P) :=
    pressedArm_early hkey (timeReached_eq_false.mpr hearly)
  exact kbdStep_pressed hk ht harm

/-- Settles O34: the candidate may be tracked, so its make sequence exists, and the re-scan confirms it. -/
theorem equalRescanConfirms : Obligations.EqualRescanConfirms := by
  intro P pol s hk ht hdue hsame
  obtain ⟨hcand, -⟩ := (tracking_cand hk).mp ht
  obtain ⟨bs, hbs⟩ : ∃ bs, makeSeq P s.candPos (s.kbdMask P) = .ok bs := withWord_tracked _ _ hcand
  have harm : confirmArm P s.tKbd s.readClock =
      .next (confirmPress P s.tKbd s.candPos (s.kbdMask P) bs (s.scanned P)) := confirmArm_equal hsame hbs
  have hcfg : (s.scanned P).cfgDelayIdx = s.cfgDelayIdx := afterScan_cfgDelayIdx P s.readClock
  refine ⟨bs, hbs, ?_⟩
  rw [kbdStep_cand_due hk ht hdue harm, confirmPress_eq, hcfg]
  rfl

/-- Settles O36: the pressed key is tracked, so its break sequence exists under either mask. -/
theorem noKeyReleases : Obligations.NoKeyReleases := by
  intro P pol s hk ht hkey
  obtain ⟨hpressed, -⟩ := (tracking_pressed hk).mp ht
  obtain ⟨bs, hbs⟩ : ∃ bs, breakSeq P s.pressedPos (policyMask pol.breakMods (s.kbdMask P) s.modsSnap) = .ok bs :=
    withWord_tracked _ _ hpressed
  have harm : pressedArm P pol s.tKbd s.readClock = .next (releaseKey P s.tKbd bs (s.scanned P)) :=
    pressedArm_noKey hkey hbs
  refine ⟨bs, ?mask, kbdStep_pressed hk ht harm⟩
  case mask => rw [← hbs]; cases pol.breakMods <;> rfl

/-- Settles O37: the pressed key is tracked, so its repeat bytes exist under either mask. -/
theorem dueRepeatIsSent : Obligations.DueRepeatIsSent := by
  intro P pol s hk ht hkey hdue
  obtain ⟨hpressed, -⟩ := (tracking_pressed hk).mp ht
  obtain ⟨bs, hbs⟩ : ∃ bs, repeatSeq P s.pressedPos (policyMask pol.repeatMods (s.kbdMask P) s.modsSnap) = .ok bs :=
    withWord_tracked _ _ hpressed
  have harm : pressedArm P pol s.tKbd s.readClock = .next (repeatKey P s.tKbd bs (s.scanned P)) :=
    pressedArm_due hkey (timeReached_iff.mpr hdue) hbs
  have hcfg : (s.scanned P).cfgRepeatIdx = s.cfgRepeatIdx := afterScan_cfgRepeatIdx P s.readClock
  refine ⟨bs, ?mask, ?step⟩
  case mask => rw [← hbs]; cases pol.repeatMods <;> rfl
  case step =>
    rw [kbdStep_pressed hk ht harm, repeatKey, hcfg]
    rfl

/-! ### What a step does to the key registers -/

/-- The registers of the tracked key have their values still. -/
structure KeyKept (s t : State) : Prop where
  ks : t.ks = s.ks
  candPos : t.candPos = s.candPos
  debDeadline : t.debDeadline = s.debDeadline
  pressedPos : t.pressedPos = s.pressedPos
  modsSnap : t.modsSnap = s.modsSnap

theorem KeyboardKept.keyKept {s t : State} (h : KeyboardKept s t) : KeyKept s t where
  ks := h.ks
  candPos := h.candPos
  debDeadline := h.debDeadline
  pressedPos := h.pressedPos
  modsSnap := h.modsSnap

/-- Only a move of the keyboard step's arms, at the clock value read, writes a register of the tracked key. -/
theorem stepWith_key_cases {P : Config.Params} {s t : State} (h : stepWith P s = .next t) :
    KeyKept s t ∨
      (s.atKeyboard ∧ ∃ u, KbdMove P Config.policies s.tKbd s.readClock u ∧ t = u.setPhase .host) := by
  cases stepWith_cases h with
  | held => exact .inl (awaitBytes_keeps_keyboard s 1).keyKept
  | parameter p rest u hw _ hu =>
    have hreply := (completeParameter_cases hw hu).1
    exact .inl (replied_keeps_keyboard .diag (awaitBytes_keeps_keyboard s 1) hreply).keyKept
  | keyboard u hw hp _ hu => exact .inr ⟨⟨hp, hw⟩, u, hu, rfl⟩
  | host t _ _ hm => exact .inl hm.keeps_keyboard.keyKept
  | diag => exact .inl ⟨rfl, rfl, rfl, rfl, rfl⟩
  | led => exact .inl (by constructor <;> simp)

/-- Settles O42: from KS = PRESSED an arm releases on a scan of no key, and otherwise repeats or holds. -/
theorem pressedKeyStaysUntilNoKey : Obligations.PressedKeyStaysUntilNoKey := by
  intro P s t hk h
  rcases stepWith_key_cases h with hkept | ⟨hat, u, hu, rfl⟩
  · exact .inl ⟨hkept.ks.trans hk, hkept.pressedPos, hkept.modsSnap, hkept.candPos⟩
  · cases hu with
    | noKey hi | arm hi | wait hi | confirm _ hi | reject hi => cases hk.symm.trans hi
    | release bs _ hkey _ => exact .inr ⟨hat, hkey, rfl, rfl⟩
    | again => exact .inl (by simpa [repeatKey] using hk)
    | held => exact .inl (by simpa using hk)

/-! ### The debounce law (R188) -/

/-- A run from `s` to `t` passed a keyboard step in IDLE whose scan reported `p`, at clock value T, with
DEB_DEADLINE = `d` the T + DEBOUNCE_MS of that step. -/
def armedOn (P : Config.Params) (s t : State) (p : Pos) (d : Time) : Prop :=
  ∃ a, Steps P s a ∧ a.atKeyboard ∧ a.ks = .idle ∧ a.kbdKey P = p ∧ d = a.tKbd + P.debounceMs ∧ Steps P a t

/-- A run from `s` to `t` confirmed `p`: the scan that armed it, and an equal re-scan at or after its deadline. -/
def confirmedOn (P : Config.Params) (s t : State) (p : Pos) : Prop :=
  ∃ a b, Steps P s a ∧ a.atKeyboard ∧ a.ks = .idle ∧ a.kbdKey P = p ∧
    Steps P a b ∧ b.atKeyboard ∧ b.ks = .cand ∧ b.kbdKey P = p ∧
    (a.tKbd + P.debounceMs).toNat ≤ b.tKbd.toNat ∧ Steps P b t

/-- What a run from `s` leaves in `t`: a candidate was armed with its deadline, and a pressed key was confirmed. -/
structure Debounced (P : Config.Params) (s t : State) : Prop where
  cand : t.ks = .cand → armedOn P s t t.candPos t.debDeadline
  pressed : t.ks = .pressed → confirmedOn P s t t.pressedPos

section
variable {P : Config.Params} {s t u : State}

theorem armedOn.tail {p : Pos} {d : Time} (h : armedOn P s t p d) (hstep : stepWith P t = .next u) :
    armedOn P s u p d := by
  obtain ⟨a, hsa, hat, hidle, hkey, hd, hau⟩ := h
  exact ⟨a, hsa, hat, hidle, hkey, hd, hau.tail hstep⟩

theorem confirmedOn.tail {p : Pos} (h : confirmedOn P s t p) (hstep : stepWith P t = .next u) :
    confirmedOn P s u p := by
  obtain ⟨a, b, hsa, hat, hidle, hkey, hab, hbt, hcand, hsame, hdue, hbu⟩ := h
  exact ⟨a, b, hsa, hat, hidle, hkey, hab, hbt, hcand, hsame, hdue, hbu.tail hstep⟩

/-- A step that keeps the tracked key keeps how it was debounced. -/
theorem Debounced.of_keyKept (h : Debounced P s t) (hk : KeyKept t u) (hstep : stepWith P t = .next u) :
    Debounced P s u where
  cand hc := by
    rw [hk.candPos, hk.debDeadline]
    exact (h.cand (hk.ks.symm.trans hc)).tail hstep
  pressed hp := by
    rw [hk.pressedPos]
    exact (h.pressed (hk.ks.symm.trans hp)).tail hstep

/-- Neither a candidate nor a pressed key: nothing was debounced. -/
theorem Debounced.of_idle (hk : t.ks = .idle) : Debounced P s t where
  cand hc := by cases hk.symm.trans hc
  pressed hp := by cases hk.symm.trans hp

/-- The arms keep it too: IDLE arms the key its scan reports, and CAND confirms it only by an equal re-scan once the
deadline has passed. -/
theorem Debounced.of_kbdMove (h : Debounced P s t) (hrun : Steps P s t) (hat : t.atKeyboard)
    (hm : KbdMove P Config.policies t.tKbd t.readClock u) (hstep : stepWith P t = .next (u.setPhase .host)) :
    Debounced P s (u.setPhase .host) := by
  cases hm with
  | noKey hi => exact .of_idle (by simpa using hi)
  | reject | release => exact .of_idle rfl
  | wait => exact h.of_keyKept ⟨rfl, rfl, rfl, rfl, rfl⟩ hstep
  | held => exact h.of_keyKept (by constructor <;> simp) hstep
  | again => exact h.of_keyKept (by constructor <;> simp [repeatKey]) hstep
  | arm hi =>
    exact {
      cand := fun _ => ⟨t, hrun, hat, hi, rfl, rfl, .tail .refl hstep⟩
      pressed := fun hp => by cases hp }
  | confirm bs hc hdue hsame =>
    obtain ⟨a, hsa, hata, hidle, hkey, hd, hab⟩ := h.cand hc
    have hpast : (a.tKbd + P.debounceMs).toNat ≤ t.tKbd.toNat := hd ▸ timeReached_iff.mp hdue
    have hrescan : t.kbdKey P = t.candPos := hsame
    have hconfirmed : confirmedOn P s _ t.candPos :=
      ⟨a, t, hsa, hata, hidle, hkey, hab, hat, hc, hrescan, hpast, .tail .refl hstep⟩
    exact {
      cand := fun hp => by simp [confirmPress] at hp
      pressed := fun _ => by simpa [confirmPress, hsame] using hconfirmed }

/-- Along every run from an untracked state, a candidate was armed and a pressed key was confirmed. -/
theorem Steps.debounced (hs : s.ks = .idle) (h : Steps P s t) : Debounced P s t := by
  induction h with
  | refl => exact .of_idle hs
  | tail hrun hstep ih =>
    rcases stepWith_key_cases hstep with hk | ⟨hat, u, hm, rfl⟩
    · exact ih.of_keyKept hk hstep
    · exact ih.of_kbdMove hrun hat hm hstep

end

/-- Settles O40: what a run leaves debounced, read at its pressed key. -/
theorem debounceLaw : Obligations.DebounceLaw :=
  fun _ _ _ hs hrun hp => (hrun.debounced hs).pressed hp

/-! ### The typematic law (R189) -/

/-- `m` milliseconds after the confirmation a repeat is due: D, D + R, D + 2R, … -/
def repeatDue (D R m : Nat) : Prop := ∃ j, m = D + j * R

/-- `e` is the first due time after `k`. -/
structure NextDue (D R k e : Nat) : Prop where
  due : repeatDue D R e
  after : k < e
  first : ∀ m, repeatDue D R m → k < m → e ≤ m

section
variable {D R k e : Nat}

/-- The first due time after the confirmation is D. -/
theorem nextDue_zero (hD : 0 < D) : NextDue D R 0 D where
  due := ⟨0, by simp⟩
  after := hD
  first := by rintro m ⟨j, rfl⟩ -; exact Nat.le_add_right D (j * R)

/-- The arm runs every millisecond, so the first due time is reached at the millisecond itself. -/
theorem NextDue.due_of_reached (h : NextDue D R k e) (he : e ≤ k + 1) : k + 1 = e := by
  have := h.after
  omega

/-- Before the first due time none is due. -/
theorem NextDue.not_due (h : NextDue D R k e) (he : k + 1 < e) : ¬ repeatDue D R (k + 1) := fun hdue => by
  have := h.first (k + 1) hdue (by omega)
  omega

/-- Until the first due time it stays the first. -/
theorem NextDue.wait (h : NextDue D R k e) (he : k + 1 < e) : NextDue D R (k + 1) e where
  due := h.due
  after := he
  first m hm hk := h.first m hm (by omega)

/-- Once a repeat was due, the next is due R later. -/
theorem nextDue_again (hR : 0 < R) (h : repeatDue D R k) : NextDue D R k (k + R) := by
  obtain ⟨j, rfl⟩ := h
  have hnext : (j + 1) * R = j * R + R := Nat.succ_mul j R
  refine ⟨⟨j + 1, by omega⟩, by omega, ?_⟩
  rintro m ⟨i, rfl⟩ hk
  have hlt : j < i := Nat.lt_of_mul_lt_mul_right (a := R) (by omega)
  have hle : (j + 1) * R ≤ i * R := Nat.mul_le_mul_right R hlt
  omega

end

/-- `k` milliseconds after the confirmation at `t0` of the key `p`: the key is pressed, and TM_DEADLINE is the first due
time to come. -/
structure Held (t0 D R k : Nat) (p : Pos) (s : State) : Prop where
  ks : s.ks = .pressed
  pressedPos : s.pressedPos = p
  deadline : ∃ e, NextDue D R k e ∧ s.tmDeadline.toNat = t0 + e

/-- A clock value that does not wrap is the count (R11). -/
theorem toNat_ofNat_time {t : Nat} (h : t < 2 ^ 32) : (BitVec.ofNat 32 t).toNat = t := by
  rw [BitVec.toNat_ofNat, Nat.mod_eq_of_lt h]

/-- A deadline armed at `t` is the sum, where it does not wrap (R11). -/
theorem timeAdd_ofNat_toNat {t : Nat} {d : Time} (h : t + d.toNat < 2 ^ 32) :
    (timeAdd (BitVec.ofNat 32 t) d).toNat = t + d.toNat := by
  have ht : (BitVec.ofNat 32 t).toNat = t := toNat_ofNat_time (by omega)
  rw [timeAdd_toNat_of_lt (by rwa [ht]), ht]

/-- A confirmation sends the make sequence and holds the candidate, with the first repeat due after D (R183). -/
theorem held_of_confirm {P : Config.Params} {pol : Config.Policies} {t0 D R : Nat} {c u : State} (hD : 0 < D)
    (hwrap : t0 + D < 2 ^ 32) (hcand : c.ks = .cand) (hdelay : (P.delayMs c.cfgDelayIdx).toNat = D)
    (hm : KbdMove P pol (BitVec.ofNat 32 t0) c u) (hu : u.ks = .pressed) :
    Held t0 D R 0 c.candPos u ∧ ∃ bs, makeSeq P c.candPos (scanMask P c) = .ok bs ∧ u.tx = c.tx ++ bs := by
  cases hm with
  | noKey hk | arm hk | release _ hk | again _ hk | held hk => cases hcand.symm.trans hk
  | wait => cases hcand.symm.trans hu
  | reject => cases hu
  | confirm bs _ _ hsame hbs =>
    have hsum := timeAdd_ofNat_toNat (t := t0) (d := P.delayMs c.cfgDelayIdx) (by omega)
    refine ⟨⟨hu, by simpa [confirmPress] using hsame, D, nextDue_zero hD, ?_⟩, bs, hsame ▸ hbs, by simp [confirmPress]⟩
    simpa [confirmPress, hdelay] using hsum

/-- What the arm sends `k` milliseconds into a hold of `p`: its repeat where one is due, and nothing where none is. -/
structure RepeatsWhenDue (P : Config.Params) (pol : Config.Policies) (D R k : Nat) (p : Pos) (s u : State) : Prop where
  due : repeatDue D R k → ∃ bs,
    repeatSeq P p (policyMask pol.repeatMods (scanMask P s) s.modsSnap) = .ok bs ∧ u.tx = s.tx ++ bs
  silent : ¬ repeatDue D R k → u.tx = s.tx

/-- One millisecond of a hold whose scan reports a key: the arm repeats exactly where a repeat is due, and the key is
held on (R186, R187). -/
theorem Held.next {P : Config.Params} {pol : Config.Policies} {t0 D R k : Nat} {p : Pos} {s u : State}
    (h : Held t0 D R k p s) (hR : 0 < R) (hwrap : t0 + (k + 1) + R < 2 ^ 32)
    (hrate : (P.repeatMs s.cfgRepeatIdx).toNat = R) (hkey : scanKey P s ≠ Config.noKey)
    (hm : KbdMove P pol (BitVec.ofNat 32 (t0 + (k + 1))) s u) :
    Held t0 D R (k + 1) p u ∧ RepeatsWhenDue P pol D R (k + 1) p s u := by
  obtain ⟨hks, hpos, e, hnext, hdl⟩ := h
  have hnow : (BitVec.ofNat 32 (t0 + (k + 1))).toNat = t0 + (k + 1) := toNat_ofNat_time (by omega)
  cases hm with
  | noKey hk | arm hk | wait hk | confirm _ hk | reject hk => cases hks.symm.trans hk
  | release _ _ hnone => exact absurd hnone hkey
  | again bs _ _ hdue hbs =>
    rw [timeReached_iff, hnow, hdl] at hdue
    have hreached : k + 1 = e := hnext.due_of_reached (by omega)
    have hrepeat : repeatDue D R (k + 1) := hreached ▸ hnext.due
    have hsum := timeAdd_ofNat_toNat (t := t0 + (k + 1)) (d := P.repeatMs s.cfgRepeatIdx) (by omega)
    refine ⟨⟨by simpa [repeatKey] using hks, by simpa [repeatKey] using hpos, k + 1 + R, nextDue_again hR hrepeat, ?_⟩,
      fun _ => ⟨bs, hpos ▸ hbs, by simp [repeatKey]⟩, absurd hrepeat⟩
    simpa [repeatKey, hrate, Nat.add_assoc] using hsum
  | held _ _ hearly =>
    rw [timeReached_eq_false, hnow, hdl] at hearly
    have hbefore : k + 1 < e := by omega
    exact ⟨⟨by simpa using hks, by simpa using hpos, e, hnext.wait hbefore, by simpa using hdl⟩,
      fun hrepeat => absurd hrepeat (hnext.not_due hbefore), fun _ => by simp⟩

/-- Settles O41, by induction on the milliseconds: the key stays held, so each run of the arm is one more millisecond of the
hold. -/
theorem typematicLaw : Obligations.TypematicLaw := by
  intro P pol t0 D R n c before after hD hR hwrap hcand hdelay hconfirm hpressed hruns
  obtain ⟨hfirst, hmake⟩ := held_of_confirm (R := R) hD (by omega) hcand hdelay (kbdArms_cases hconfirm) hpressed
  have hstep : ∀ k < n, Held t0 D R k c.candPos (after k) →
      Held t0 D R (k + 1) c.candPos (after (k + 1)) ∧
        RepeatsWhenDue P pol D R (k + 1) c.candPos (before k) (after (k + 1)) := by
    intro k hk hheld
    obtain ⟨hks, hpos, hdl, hrate, hkey, harm⟩ := hruns k hk
    have hbefore : Held t0 D R k c.candPos (before k) :=
      ⟨hks.trans hheld.ks, hpos.trans hheld.pressedPos, by simpa only [hdl] using hheld.deadline⟩
    exact hbefore.next hR (by omega) hrate hkey (kbdArms_cases harm)
  have hheld : ∀ k ≤ n, Held t0 D R k c.candPos (after k) := by
    intro k
    induction k with
    | zero => exact fun _ => hfirst
    | succ k ih => exact fun hk => (hstep k hk (ih (by omega))).1
  refine ⟨hmake, fun k hk => ?_⟩
  obtain ⟨hnext, hrepeats⟩ := hstep k hk (hheld k hk.le)
  exact ⟨hnext.ks, hnext.pressedPos, hrepeats.due, hrepeats.silent⟩

/-! ### The keyboard step and the host side (R180 to R187) -/

/-- The state with another host side: RX, the host agent's answers and HOST_WAIT. -/
def State.withHostSide (s : State) (rx : List Byte) (offers : List (Option Byte)) (w : HostWait) : State :=
  { s with rx := rx, hostScript := offers, hostWait := w }

section
variable (P : Config.Params) (pol : Config.Policies) (t : Time) (s : State) (rx : List Byte)
  (offers : List (Option Byte)) (w : HostWait)

theorem afterSamples_withHostSide (cs : List (Fin 10)) :
    afterSamples cs (s.withHostSide rx offers w) = (afterSamples cs s).withHostSide rx offers w := by
  induction cs generalizing s with
  | nil => rfl
  | cons c cs ih => exact ih (s.select c).sampleRow

@[simp] theorem scanKey_withHostSide : scanKey P (s.withHostSide rx offers w) = scanKey P s := scanKey_congr P rfl rfl

@[simp] theorem scanMask_withHostSide : scanMask P (s.withHostSide rx offers w) = scanMask P s :=
  scanMask_congr P rfl rfl

@[simp] theorem afterScan_withHostSide :
    afterScan P (s.withHostSide rx offers w) = (afterScan P s).withHostSide rx offers w := by
  simp only [afterScan, afterSamples_withHostSide, scanMask_withHostSide]
  rfl

theorem ledRequest_withHostSide :
    ledRequest P t (s.withHostSide rx offers w) = (ledRequest P t s).withHostSide rx offers w := by
  cases h : timeReached t s.ledNextDl <;> simp [ledRequest, State.withHostSide, h]

theorem confirmPress_withHostSide (p : Pos) (m : Mask) (bs : List Byte) :
    confirmPress P t p m bs (s.withHostSide rx offers w) =
      (confirmPress P t p m bs s).withHostSide rx offers w := by
  have hlit := ledRequest_withHostSide P t (s.emit bs) rx offers w
  simp only [confirmPress_eq]
  exact congrArg (fun lit : State => { lit with
    pressedPos := p, modsSnap := m, candPos := Config.noKey, ks := .pressed
    tmDeadline := timeAdd t (P.delayMs s.cfgDelayIdx) }) hlit

theorem releaseKey_withHostSide (bs : List Byte) :
    releaseKey P t bs (s.withHostSide rx offers w) = (releaseKey P t bs s).withHostSide rx offers w :=
  congrArg (fun lit : State => { lit with pressedPos := Config.noKey, ks := .idle })
    (ledRequest_withHostSide P t (s.emit bs) rx offers w)

theorem idleArm_withHostSide :
    idleArm P t (s.withHostSide rx offers w) = onNext (idleArm P t s) (·.withHostSide rx offers w) := by
  simp only [idleArm, scanKey_withHostSide, afterScan_withHostSide]
  split <;> rfl

theorem confirmArm_withHostSide :
    confirmArm P t (s.withHostSide rx offers w) = onNext (confirmArm P t s) (·.withHostSide rx offers w) := by
  have hcand : (s.withHostSide rx offers w).candPos = s.candPos := rfl
  simp only [confirmArm, scanKey_withHostSide, scanMask_withHostSide, afterScan_withHostSide, hcand]
  split
  · simp only [onNext_withBytes, confirmPress_withHostSide]
  · rfl

theorem pressedArm_withHostSide :
    pressedArm P pol t (s.withHostSide rx offers w) = onNext (pressedArm P pol t s) (·.withHostSide rx offers w) := by
  have hpos : (s.withHostSide rx offers w).pressedPos = s.pressedPos := rfl
  have hsnap : (s.withHostSide rx offers w).modsSnap = s.modsSnap := rfl
  have hdl : (s.withHostSide rx offers w).tmDeadline = s.tmDeadline := rfl
  simp only [pressedArm, scanKey_withHostSide, scanMask_withHostSide, afterScan_withHostSide, hpos, hsnap, hdl]
  split
  · simp only [onNext_withBytes, releaseKey_withHostSide]
  · split
    · simp only [onNext_withBytes]
      rfl
    · rfl

/-- The arms name no part of the host side: they end as before, with the other host side. -/
theorem kbdArms_withHostSide :
    kbdArms P pol t (s.withHostSide rx offers w) = onNext (kbdArms P pol t s) (·.withHostSide rx offers w) := by
  have hks : (s.withHostSide rx offers w).ks = s.ks := rfl
  have hdl : (s.withHostSide rx offers w).debDeadline = s.debDeadline := rfl
  simp only [kbdArms, hks, hdl]
  split
  · exact idleArm_withHostSide P t s rx offers w
  · split
    · exact confirmArm_withHostSide P t s rx offers w
    · rfl
  · exact pressedArm_withHostSide P pol t s rx offers w
  · rfl

end

/-- Settles O52: the clock read and the arm are those of the state itself, with the other host side. -/
theorem keyboardStepIgnoresHost : Obligations.KeyboardStepIgnoresHost := by
  intro P pol s t rx offers w h
  obtain ⟨htrack, -⟩ := kbdStep_cases h
  rw [kbdStep_tracking htrack] at h
  obtain ⟨u, hu, rfl⟩ := onNext_eq_next.mp h
  have harm : kbdArms P pol s.tKbd (s.readClock.withHostSide rx offers w) = .next (u.withHostSide rx offers w) := by
    rw [kbdArms_withHostSide, State.tKbd, hu, onNext_next]
  exact kbdStep_of_arms (s := s.withHostSide rx offers w) htrack harm

end Sys2Proof.Machine
end

section
/-! PROOFS. LOOKUP: the table LeftShift selects and the two faults (spec/43_rom_lookup.md R210, R211,
spec/20_memory.md R75). -/

namespace Sys2Proof.Machine

/-- Neither table has a word above position 79 (R75). -/
theorem romRead_outOfRange (P : Config.Params) (tbl : RomTable) {p : Pos} (h : 80 ≤ p.toNat) :
    romRead P tbl p = .error .romIndexOutOfRange := dif_neg (Nat.not_lt.mpr h)

/-- A modifier position is looked for first: no table is read for it (R211). -/
theorem lookup_of_modifier {P : Config.Params} {p : Pos} (m : Mask) (h : isModifierPos P p = true) :
    lookup P p m = .error .lookupOfModifier := if_pos h

/-- For a position that is no modifier's, LOOKUP is the read of the table that LeftShift selects (R210). -/
theorem lookup_of_not_modifier {P : Config.Params} {p : Pos} (m : Mask) (h : isModifierPos P p = false) :
    lookup P p m = romRead P (if maskLShift m then .s else .u) p := if_neg (Bool.eq_false_iff.mp h)

/-- Settles O44: the words by `lookup_eq_ok`; of the faults, one comes before the ROM read and the other from it. -/
theorem lookupSelectsTable : Obligations.LookupSelectsTable := by
  intro P p m
  refine ⟨fun hrange hkey => ?word, fun hmod => ?modifier, fun hkey hout => ?outOfRange⟩
  case word => exact lookup_eq_ok.mpr ⟨hrange, hkey, rfl⟩
  case modifier => exact lookup_of_modifier m hmod
  case outOfRange => rw [lookup_of_not_modifier m hkey, romRead_outOfRange P _ hout]

end Sys2Proof.Machine
end

section
/-! PROOFS. The key event encoder (spec/44_encoder.md R225 to R232): the sequences of a looked-up word, as bytes and as
fragments, and the make and the break that the block sends of one pressed key. -/

namespace Sys2Proof.Machine

/-! ### The sequences of a looked-up word (R225 to R229) -/

section
variable {P : Config.Params} {p : Pos} {m : Mask} {e : RomWord}

theorem makeSeq_of_lookup (h : lookup P p m = .ok e) : makeSeq P p m = .ok (makeBytes e m) :=
  withWord_eq_ok.mpr ⟨e, h, rfl⟩

theorem breakSeq_of_lookup (h : lookup P p m = .ok e) : breakSeq P p m = .ok (breakBytes e m) :=
  withWord_eq_ok.mpr ⟨e, h, rfl⟩

theorem repeatSeq_of_lookup (h : lookup P p m = .ok e) : repeatSeq P p m = .ok (keyMake e) :=
  withWord_eq_ok.mpr ⟨e, h, rfl⟩

end

/-- Only the whole word 0 is unmapped (R213, D40). -/
theorem romMapped_iff {e : RomWord} : romMapped e = true ↔ e ≠ 0 := bne_iff_ne

/-- KEY_MAKE in the word's bits (R225). -/
theorem keyMake_eq (e : RomWord) :
    keyMake e = if e ≠ 0 then (if e.getLsbD 8 then [0xE0] else []) ++ [e.extractLsb' 0 8] else [] := by
  simp only [keyMake, romMapped_iff]
  rfl

/-- KEY_BREAK in the word's bits (R226). -/
theorem keyBreak_eq (e : RomWord) :
    keyBreak e = if e ≠ 0 then (if e.getLsbD 8 then [0xE0] else []) ++ [0xF0, e.extractLsb' 0 8] else [] := by
  simp only [keyBreak, romMapped_iff]
  rfl

/-- Settles O45: each sequence is the bytes of its looked-up word, and KEY_MAKE and KEY_BREAK are read off the word's
bits. -/
theorem encoderSequences : Obligations.EncoderSequences := by
  intro P p m e h ext code
  refine ⟨?make, ?brk, ?again⟩
  case make =>
    rw [makeSeq_of_lookup h, makeBytes, keyMake_eq]
    rfl
  case brk =>
    rw [breakSeq_of_lookup h, breakBytes, keyBreak_eq]
    rfl
  case again => rw [repeatSeq_of_lookup h, keyMake_eq]

/-! ### Sequences as fragments (R108, R232) -/

/-- The bytes of an optional fragment, in whichever form. -/
theorem flatMap_optional (c : Bool) (f : Fragment) (form : Fragment → List Byte) :
    (if c then [f] else []).flatMap form = if c then form f else [] := by
  cases c <;> simp

/-- One fragment is its own reverse. -/
theorem reverse_optional (c : Bool) (f : Fragment) : (if c then [f] else []).reverse = if c then [f] else [] := by
  cases c <;> rfl

/-- The key's own make bytes are one fragment (R225). -/
theorem keyMake_mapped {e : RomWord} (h : e ≠ 0) :
    keyMake e = (Fragment.key (e.getLsbD 8) (e.extractLsb' 0 8)).make := by
  rw [keyMake_eq, if_pos h]
  cases e.getLsbD 8 <;> rfl

/-- The key's own break bytes are that fragment's break form (R226). -/
theorem keyBreak_mapped {e : RomWord} (h : e ≠ 0) :
    keyBreak e = (Fragment.key (e.getLsbD 8) (e.extractLsb' 0 8)).brk := by
  rw [keyBreak_eq, if_pos h]
  cases e.getLsbD 8 <;> rfl

/-- The make sequence of a mapped word is its fragments in their make forms (R227). -/
theorem makeBytes_eq_fragments {e : RomWord} (h : e ≠ 0) (m : Mask) :
    makeBytes e m = (makeFragments e m).flatMap Fragment.make := by
  simp only [makeBytes, keyMake_mapped h, makeFragments, List.flatMap_append, flatMap_optional, List.flatMap_singleton]
  rfl

/-- The break sequence is the same fragments, reversed, in their break forms (R228, R232). -/
theorem breakBytes_eq_fragments {e : RomWord} (h : e ≠ 0) (m : Mask) :
    breakBytes e m = (makeFragments e m).reverse.flatMap Fragment.brk := by
  simp only [breakBytes, keyBreak_mapped h, makeFragments, List.reverse_append, reverse_optional,
    List.reverse_singleton, List.flatMap_append, flatMap_optional, List.flatMap_singleton, List.append_assoc]
  rfl

/-! ### The pair the block sends (R183, R185, R230, R232) -/

/-- A step sent the make sequence of the key that `r` has pressed, under the MODS_SNAP of `r`. -/
def sentMakeOf (P : Config.Params) (r a b : State) : Prop :=
  ∃ e, lookup P r.pressedPos r.modsSnap = .ok e ∧ b.tx = a.tx ++ makeBytes e r.modsSnap

/-- A run from `s` to `r` confirmed the key that `r` has pressed. -/
def makeSentIn (P : Config.Params) (s r : State) : Prop :=
  ∃ a b, Steps P s a ∧ stepWith P a = .next b ∧ Steps P b r ∧ a.ks = .cand ∧ b.ks = .pressed ∧ sentMakeOf P r a b

section
variable {P : Config.Params} {s t u : State}

/-- A step that ends with a pressed key had it already, or is the confirmation that sends its make (R183). -/
theorem stepWith_pressed_cases (h : stepWith P t = .next u) (hu : u.ks = .pressed) :
    (t.ks = .pressed ∧ u.pressedPos = t.pressedPos ∧ u.modsSnap = t.modsSnap) ∨
      (t.ks = .cand ∧ sentMakeOf P u t u) := by
  rcases stepWith_key_cases h with hk | ⟨-, v, hm, rfl⟩
  · exact .inl ⟨hk.ks.symm.trans hu, hk.pressedPos, hk.modsSnap⟩
  · cases hm with
    | noKey hi => cases hu.symm.trans (by simpa using hi)
    | wait hc => cases hu.symm.trans hc
    | arm | reject | release => cases hu
    | again _ hp => exact .inl ⟨hp, by simp [repeatKey], by simp [repeatKey]⟩
    | held hp => exact .inl ⟨hp, by simp, by simp⟩
    | confirm bs hc _ _ hbs =>
      obtain ⟨e, he, rfl⟩ := withWord_eq_ok.mp hbs
      exact .inr ⟨hc, e, by simpa [confirmPress] using he, by simp [confirmPress]⟩

/-- A step from a pressed key to IDLE is the release, whose break is built from MODS_SNAP (R185, D20). -/
theorem stepWith_release_sends (h : stepWith P t = .next u) (ht : t.ks = .pressed) (hu : u.ks = .idle) :
    ∃ bs, breakSeq P t.pressedPos t.modsSnap = .ok bs ∧ u.tx = t.tx ++ bs := by
  rcases stepWith_key_cases h with hk | ⟨-, v, hm, rfl⟩
  · cases hu.symm.trans (hk.ks.trans ht)
  · cases hm with
    | noKey hk | arm hk | wait hk | confirm _ hk | reject hk => cases ht.symm.trans hk
    | again => cases ht.symm.trans (by simpa [repeatKey] using hu)
    | held => cases ht.symm.trans (by simpa using hu)
    | release bs _ _ hbs => exact ⟨bs, hbs, by simp [releaseKey]⟩

/-- Along every run from an untracked state, the make of a pressed key was sent by a confirmation of the run. -/
theorem Steps.makeSent (hs : s.ks = .idle) (h : Steps P s t) : t.ks = .pressed → makeSentIn P s t := by
  induction h with
  | refl => exact fun hp => by cases hs.symm.trans hp
  | @tail t u hrun hstep ih =>
    intro hp
    rcases stepWith_pressed_cases hstep hp with ⟨ht, hpos, hsnap⟩ | ⟨hc, hsent⟩
    · obtain ⟨a, b, hsa, hab, hbt, hac, hbp, hsent⟩ := ih ht
      refine ⟨a, b, hsa, hab, hbt.tail hstep, hac, hbp, ?_⟩
      rwa [sentMakeOf, hpos, hsnap]
    · exact ⟨t, u, hrun, hstep, .refl, hc, hp, hsent⟩

end

/-- Settles O46: the confirmation sent the make of the word that the release looks up again under the same mask, and both
sequences are that word's fragments. -/
theorem breakMirrorsMake : Obligations.BreakMirrorsMake := by
  intro P s r hs hrun hr
  obtain ⟨a, b, hsa, hab, hbr, ha, hb, e, he, hmake⟩ := hrun.makeSent hs hr
  refine ⟨a, b, e, hsa, hab, hbr, ha, hb, he, fun hmapped => ⟨?make, fun t hstep ht => ?brk⟩⟩
  case make => rw [hmake, makeBytes_eq_fragments hmapped]
  case brk =>
    obtain ⟨bs, hbs, hsent⟩ := stepWith_release_sends hstep hr ht
    obtain rfl : breakBytes e r.modsSnap = bs := Except.ok.inj ((breakSeq_of_lookup he).symm.trans hbs)
    rw [hsent, breakBytes_eq_fragments hmapped]

end Sys2Proof.Machine
end

section
/-! PROOFS. The host commands (spec/45_host_commands.md R250 to R272): the replies of each command, the completion that a
parameter byte brings, and the host step that fetches them. -/

namespace Sys2Proof.Machine

/-! ### Replies (R13, R44) -/

/-- The bytes sent one after the other, each after its own reply wait. -/
def State.replyAll (s : State) (bs : List Byte) : State := bs.foldl State.reply s

theorem State.reply_eq (s : State) (b : Byte) :
    s.reply b = { s with tx := s.tx ++ [b], trace := s.trace ++ [.replyWait, .tx b] } := by
  simp [State.reply, State.observe, State.emit]

/-- Replies change TX and the observation only. -/
theorem State.replyAll_eq (s : State) (bs : List Byte) :
    s.replyAll bs = { s with
      tx := s.tx ++ bs
      trace := s.trace ++ bs.flatMap fun b => [.replyWait, .tx b] } := by
  induction bs generalizing s with
  | nil => simp [State.replyAll]
  | cons b bs ih =>
    have hfirst : s.replyAll (b :: bs) = (s.reply b).replyAll bs := rfl
    rw [hfirst, ih, State.reply_eq]
    simp

theorem State.replyAfterReset_eq (s : State) (b : Byte) :
    s.replyAfterReset b = { s with tx := s.tx ++ [b], trace := s.trace ++ [.resetWait, .tx b] } := by
  simp [State.replyAfterReset, State.observe, State.emit]

/-! ### First halves and completions (R251 to R258) -/

theorem beginParameter_eq (w : HostWait) (s : State) :
    beginParameter w s = { s with
      tx := s.tx ++ [0xFA], trace := s.trace ++ [.replyWait, .tx 0xFA], hostWait := w } := by
  rw [beginParameter, State.reply_eq]
  rfl

/-- The ACK of the first half and the replies of the completion are one reply sequence; no wait is left. -/
theorem endWait_replyAll_beginParameter (w : HostWait) (s : State) (bs : List Byte) :
    ((beginParameter w s).replyAll bs).endWait = (s.replyAll (0xFA :: bs)).endWait := by
  simp [beginParameter_eq, State.replyAll_eq, State.endWait]

theorem completeSetLeds_eq (p : Byte) (s : State) : completeSetLeds p s = .next (s.replyAll [0xFA]).endWait := rfl

theorem completeScanSet_query (s : State) : completeScanSet 0 s = .next (s.replyAll [0xFA, 0x02]).endWait := rfl

theorem completeScanSet_select {p : Byte} (hp : p ≠ 0) (s : State) :
    completeScanSet p s = .next (s.replyAll [0xFA]).endWait := if_neg hp

section
variable {pol : Config.Bit7Policy} {rsvd : BitVec 1} (delay : BitVec 2) (rate : BitVec 5) (s : State)

theorem completeTypematic_refused (h : rsvd = 1 ∧ pol = .unspecified) :
    completeTypematic pol rsvd delay rate s = .refused .typematicBit7 := if_pos h

theorem completeTypematic_configures (h : ¬(rsvd = 1 ∧ pol = .unspecified)) :
    completeTypematic pol rsvd delay rate s =
      .next { s with cfgDelayIdx := delay, cfgRepeatIdx := rate, hostWait := .none } := if_neg h

end

/-- RSVD is bit 7 of the parameter (R103). -/
theorem paramRsvd_eq_ofBool (p : Byte) : paramRsvd p = BitVec.ofBool (p.getLsbD 7) := by
  ext i hi
  obtain rfl : i = 0 := by omega
  simp [paramRsvd]

/-! ### What the commands do (R251 to R271) -/

/-- Settles O5: the ACK of the first half, then the one of the completion. -/
theorem setLedsRepliesTwice : Obligations.SetLedsRepliesTwice := by
  intro p s
  have hhalves : exec (.setleds p) s = completeSetLeds p (beginParameter .wLeds s) := rfl
  rw [hhalves, completeSetLeds_eq, endWait_replyAll_beginParameter, State.replyAll_eq]
  rfl

/-- Settles O6, by the one reply. -/
theorem echoReplies : Obligations.EchoReplies :=
  fun s rest => ⟨decode_cmd rfl rest, congrArg _ (s.replyAll_eq [0xEE])⟩

/-- Settles O7: the parameter 0 asks for the set, and every other one selects it. -/
theorem scanSetReplies : Obligations.ScanSetReplies := by
  intro p s
  have hhalves : exec (.scanset p) s = completeScanSet p (beginParameter .wScanset s) := rfl
  refine ⟨?query, fun hp => ?select⟩
  case query =>
    rintro rfl
    rw [hhalves, completeScanSet_query, endWait_replyAll_beginParameter, State.replyAll_eq]
    rfl
  case select =>
    rw [hhalves, completeScanSet_select hp, endWait_replyAll_beginParameter, State.replyAll_eq]
    rfl

/-- Settles O8, by the two replies. -/
theorem readIdRepliesTwice : Obligations.ReadIdRepliesTwice :=
  fun s rest => ⟨decode_cmd rfl rest, congrArg _ (s.replyAll_eq [0xAB, 0xAB])⟩

/-- Settles O9: the machine's F3_BIT7 is IGNORE, so no parameter is refused. -/
theorem typematicConfigures : Obligations.TypematicConfigures := by
  intro rsvd delay rate s
  have hhalves : exec (.typematic rsvd delay rate) s =
      completeTypematic .ignoreBit rsvd delay rate (beginParameter .wTypematic s) := rfl
  rw [hhalves, completeTypematic_configures _ _ _ (by simp), beginParameter_eq]

/-- Settles O10: the policies differ only where bit 7 is set. -/
theorem typematicBit7Policy : Obligations.TypematicBit7Policy := by
  intro p s
  refine ⟨fun hbit => ?refused, fun hbit => ?clear, ?ignored⟩
  case refused => exact completeTypematic_refused _ _ _ ⟨by rw [paramRsvd_eq_ofBool, hbit]; rfl, rfl⟩
  case clear => exact completeTypematic_configures _ _ _ (by rw [paramRsvd_eq_ofBool, hbit]; simp)
  case ignored => exact completeTypematic_configures _ _ _ (by simp)

/-- Settles O11: both commands are their one reply. -/
theorem enableAndDisableOnlyAck : Obligations.EnableAndDisableOnlyAck :=
  fun s rest => ⟨decode_cmd rfl rest, decode_cmd rfl rest,
    congrArg _ (s.replyAll_eq [0xFA]), congrArg _ (s.replyAll_eq [0xFA])⟩

/-- Settles O12: the default configuration is the spec's (1, 11). -/
theorem defaultRestoresConfiguration : Obligations.DefaultRestoresConfiguration :=
  fun _ rest => ⟨decode_cmd rfl rest, rfl⟩

/-- Settles O13: each byte's row is a command alone, whose meaning is the state itself. -/
theorem recognisedSilentCommands : Obligations.RecognisedSilentCommands :=
  fun _ rest => ⟨⟨decode_cmd rfl rest, rfl⟩, ⟨decode_cmd rfl rest, rfl⟩, ⟨decode_cmd rfl rest, rfl⟩,
    ⟨decode_cmd rfl rest, rfl⟩, ⟨decode_cmd rfl rest, rfl⟩, ⟨decode_cmd rfl rest, rfl⟩, ⟨decode_cmd rfl rest, rfl⟩,
    ⟨decode_cmd rfl rest, rfl⟩⟩

/-- Settles O14: the ACK after the reply wait, BAT_OK after the reset wait. -/
theorem resetCommandOnlyReplies : Obligations.ResetCommandOnlyReplies := by
  intro s rest
  have hreplies : exec .reset s = .next ((s.reply 0xFA).replyAfterReset 0xAA) := rfl
  refine ⟨decode_cmd rfl rest, ?_⟩
  rw [hreplies, State.replyAfterReset_eq, State.reply_eq]
  simp

/-- Settles O15: a byte that is none of the recognised ones has no row in the map. -/
theorem unrecognisedByteIgnored : Obligations.UnrecognisedByteIgnored := by
  intro b s rest hb
  have hun : recognised b = false := by
    rw [recognised, recognisedBytes, ← Bool.not_eq_true, List.contains_iff_mem]
    exact hb
  exact ⟨decode_cmd (formatOf_unrecognised hun) rest, rfl⟩

/-! ### The host step by what was fetched (R250, R47) -/

theorem hostStep_of_noByte {s : State} (h : s.fetchCommand.rx = []) :
    hostStep s = .next (s.fetchCommand.setPhase .diag) := by
  simp [hostStep, h, decode]

/-- A CMDP command byte alone is the first half and the hold. -/
theorem hostStep_of_lone {s : State} {b : Byte} {mk : Byte → Instr} (hf : formatOf b = .cmdp mk)
    (h : s.fetchCommand.rx = [b]) :
    hostStep s = .next ((beginParameter (waitOf b) (s.fetchCommand.takeRx [])).setPhase .host) := by
  simp [hostStep, h, decode_cmdp_alone hf]

/-- The byte that a held block finds completes its command. -/
theorem parameterStep_of_byte {s : State} {p : Byte} {rest : List Byte} (h : (s.awaitBytes 1).rx = p :: rest) :
    parameterStep s =
      onNext (completeParameter s.hostWait p ((s.awaitBytes 1).takeRx rest)) fun t => t.setPhase .diag := by
  simp [parameterStep, h]

theorem State.setPhase_self {s : State} {p : Phase} (h : s.phase = p) : s.setPhase p = s := by
  subst h; rfl

/-- Settles O17: the fetch finds no byte. -/
theorem hostStepWithoutByte : Obligations.HostStepWithoutByte := by
  rintro s ⟨hp, hw⟩ hrx hoffer
  have hfetch : s.fetchCommand = s.askHost := State.fetchCommand_of_nothing hrx hoffer
  have hempty : s.askHost.rx = [] := by simp [hrx, hoffer]
  refine ⟨?_, hempty, State.askHost_tx s⟩
  rw [step, subStep_host hw hp, hostStep_of_noByte (by rw [hfetch, hempty]), hfetch]
  rfl

/-- A step that has fetched a CMDP command byte alone ends after its first half, with PHASE still at HOST (R47). -/
theorem step_of_lone {s : State} {b : Byte} (hb : b = 0xED ∨ b = 0xF0 ∨ b = 0xF3) (hs : s.atHost)
    (h : s.fetchCommand.rx = [b]) :
    step s = .next (beginParameter (waitOf b) (s.fetchCommand.takeRx [])) := by
  obtain ⟨hp, hw⟩ := hs
  obtain ⟨mk, hf⟩ := (formatOf_cmdp_iff b).mpr hb
  rw [step, subStep_host hw hp, hostStep_of_lone hf h, State.setPhase_self (by simpa using hp)]

/-- Settles O19: the first half of each of the three commands. -/
theorem parameterCommandsHold : Obligations.ParameterCommandsHold := by
  intro s b w hb hs h
  have ⟨hcmdp, hwait⟩ : (b = 0xED ∨ b = 0xF0 ∨ b = 0xF3) ∧ waitOf b = w := by
    rcases hb with ⟨rfl, rfl⟩ | ⟨rfl, rfl⟩ | ⟨rfl, rfl⟩ <;> decide
  rw [step_of_lone hcmdp hs h, hwait, beginParameter_eq]
  simp [State.takeRx]

/-- A step of a held block that finds a byte completes the command with it (R47, R272). -/
theorem step_of_parameter {s : State} {p : Byte} {rest : List Byte} (hw : s.hostWait ≠ .none)
    (h : (s.awaitBytes 1).rx = p :: rest) :
    step s = onNext (completeParameter s.hostWait p ((s.awaitBytes 1).takeRx rest)) fun t => t.setPhase .diag := by
  rw [step, subStep_waiting hw, parameterStep_of_byte h]

/-- A completion that only replies and ends the wait, as a whole next state. -/
theorem step_of_parameter_replies {s : State} {p : Byte} {rest bs : List Byte} (hw : s.hostWait ≠ .none)
    (h : (s.awaitBytes 1).rx = p :: rest)
    (hc : completeParameter s.hostWait p ((s.awaitBytes 1).takeRx rest) =
      .next (((s.awaitBytes 1).takeRx rest).replyAll bs).endWait) :
    step s = .next { s.awaitBytes 1 with
      rx := rest, phase := .diag, hostWait := .none, tx := s.tx ++ bs
      trace := s.trace ++ bs.flatMap fun b => [.replyWait, .tx b] } := by
  rw [step_of_parameter hw h, hc, State.replyAll_eq]
  simp [State.takeRx, State.endWait, State.setPhase]

/-- Settles O20, by the completion that HOST_WAIT names. -/
theorem parameterCompletesCommand : Obligations.ParameterCompletesCommand := by
  intro s p rest
  refine ⟨fun hrx => State.awaitBytes_of_le (by simp [hrx]),
    fun hrx => ⟨fun hw => ?leds, fun hw hp => ?query, fun hw hp => ?select, fun hw => ?typematic⟩⟩
  case leds => exact step_of_parameter_replies (by simp [hw]) hrx (by rw [hw]; exact completeSetLeds_eq p _)
  case query => exact step_of_parameter_replies (by simp [hw]) hrx (by rw [hw, hp]; exact completeScanSet_query _)
  case select => exact step_of_parameter_replies (by simp [hw]) hrx (by rw [hw]; exact completeScanSet_select hp _)
  case typematic =>
    rw [step_of_parameter (by simp [hw]) hrx, hw, completeParameter,
      completeTypematic_configures _ _ _ (by simp [Config.policies])]
    rfl

/-! ### A late parameter (R251 to R258, R272) -/

/-- A CMDP command with its parameter is its first half followed by the completion that the first half awaits. -/
theorem exec_cmdp {b : Byte} (hb : b = 0xED ∨ b = 0xF0 ∨ b = 0xF3) :
    ∃ mk, formatOf b = .cmdp mk ∧
      ∀ p s, exec (mk p) s = completeParameter (waitOf b) p (beginParameter (waitOf b) s) := by
  rcases hb with rfl | rfl | rfl <;> exact ⟨_, rfl, fun _ _ => rfl⟩

/-- The state with another host agent: its script, and the counter that its draws are taken at. -/
def State.withHostAgent (s : State) (offers : List (Option Byte)) (draws : Nat) : State :=
  { s with hostScript := offers, draws := draws }

/-- Once the bytes are taken, fetching a command has changed the host agent only. -/
theorem takeRx_eq_fetched (s : State) (rest : List Byte) :
    s.takeRx rest = (s.fetchCommand.takeRx rest).withHostAgent s.hostScript s.draws := by
  rw [s.fetchCommand_frame]
  rfl

/-- A first half asks the host for nothing. -/
theorem beginParameter_withHostAgent (w : HostWait) (s : State) (offers : List (Option Byte)) (draws : Nat) :
    beginParameter w (s.withHostAgent offers draws) = (beginParameter w s).withHostAgent offers draws := rfl

/-- A completion asks the host for nothing. -/
theorem completeParameter_withHostAgent (w : HostWait) (p : Byte) (s : State) (offers : List (Option Byte))
    (draws : Nat) :
    completeParameter w p (s.withHostAgent offers draws) =
      onNext (completeParameter w p s) fun t => t.withHostAgent offers draws := by
  cases w with
  | none | wLeds => rfl
  | wScanset => simp only [completeParameter, completeScanSet]; split <;> rfl
  | wTypematic => simp only [completeParameter, completeTypematic]; split <;> rfl

/-- A held block whose RX was empty completes its command when the parameter comes. -/
theorem step_of_late_parameter {s u : State} {p : Byte} (hw : s.hostWait ≠ .none) (hrx : s.rx = [])
    (hu : completeParameter s.hostWait p s = .next u) : step (s.takeRx [p]) = .next (u.setPhase .diag) := by
  have hawait : (s.takeRx [p]).awaitBytes 1 = s.takeRx [p] := State.awaitBytes_of_le le_rfl
  have htaken : (s.takeRx [p]).takeRx [] = s := by rw [← hrx]; rfl
  rw [step_of_parameter (s := s.takeRx [p]) hw (congrArg State.rx hawait), hawait, htaken, State.takeRx_hostWait, hu,
    onNext_next]

/-- A host step that finds exactly the bytes of one command runs it. -/
theorem step_of_whole {s u : State} {i : Instr} {bs : List Byte} (hs : s.atHost) (hd : decode bs = .ok (i, []))
    (hu : exec i (s.takeRx []) = .next u) : step (s.takeRx bs) = .next (u.setPhase .diag) := by
  obtain ⟨hwhole, hrun⟩ := stepRunsDecodedInstruction (s.takeRx bs) i [] hs
  have hfetch : (s.takeRx bs).fetchCommand = s.takeRx bs := hwhole hd
  rw [hrun (by rw [hfetch]; exact hd), hfetch]
  exact congrArg (onNext · fun t => t.setPhase .diag) hu

/-- Settles O23: late or whole, the command is its first half and the completion, from states that differ in the host
agent only. -/
theorem lateParameterEqualsWholeCommand : Obligations.LateParameterEqualsWholeCommand := by
  intro s b p hb hs hrx
  obtain ⟨mk, hf, hhalves⟩ := exec_cmdp hb
  obtain ⟨u, hu⟩ := completeParameter_goes_on (waitOf b) p (beginParameter (waitOf b) (s.fetchCommand.takeRx []))
  have hwhole : exec (mk p) (s.takeRx []) = .next (u.withHostAgent s.hostScript s.draws) := by
    rw [hhalves, takeRx_eq_fetched, beginParameter_withHostAgent, completeParameter_withHostAgent, hu, onNext_next]
  exact ⟨_, u.setPhase .diag, step_of_lone hb hs hrx, step_of_late_parameter (waitOf_ne_none hb) rfl hu,
    step_of_whole hs (decode_cmdp hf p []) hwhole⟩

end Sys2Proof.Machine
end

section
/-! PROOFS. The LED indicator (spec/46_led.md R290 to R292): the blink window, and which moves of a step ask for a blink. -/

namespace Sys2Proof.Machine

/-! ### The blink window (R290, R291) -/

/-- Settles O47: the request and the decay check each compare the clock value with one deadline. -/
theorem ledBlinkWindow : Obligations.LedBlinkWindow := by
  refine fun P t s => ⟨fun hdue => ?taken, fun hearly => ?dropped, fun hon hdue => ?off, fun hkept => ?kept⟩
  case taken => exact if_pos (timeReached_iff.mpr hdue)
  case dropped => exact if_neg (by simp [timeReached_eq_false.mpr hearly])
  case off => exact if_pos (Bool.and_eq_true_iff.mpr ⟨hon, timeReached_iff.mpr hdue⟩)
  case kept =>
    obtain ⟨hon, hdue, -⟩ | ⟨-, hsame⟩ := ledDecay_cases t s
    · rcases hkept with hoff | hearly
      · simp [hoff] at hon
      · simp [timeReached_eq_false.mpr hearly] at hdue
    · exact hsame

/-! ### Who asks for a blink (R292) -/

/-- No blink request is taken from `s` to `t`: a dark LED stays dark, and both deadlines have their values still. -/
structure NoBlink (s t : State) : Prop where
  dark : s.ledOn = false → t.ledOn = false
  ledOffDl : t.ledOffDl = s.ledOffDl
  ledNextDl : t.ledNextDl = s.ledNextDl

theorem KeyboardKept.noBlink {s t : State} (h : KeyboardKept s t) : NoBlink s t where
  dark := h.ledOn.trans
  ledOffDl := h.ledOffDl
  ledNextDl := h.ledNextDl

/-- The decay check can only turn the LED off (R291). -/
theorem ledDecay_noBlink (t : Time) (s : State) : NoBlink s (ledDecay t s) where
  dark hs := by
    obtain ⟨-, -, h⟩ | ⟨-, h⟩ := ledDecay_cases t s
    · rw [h]
    · rw [h, hs]
  ledOffDl := ledDecay_ledOffDl t s
  ledNextDl := ledDecay_ledNextDl t s

/-- A step from `s` to `t` confirms a press (R183) or releases the key (R185). -/
def pressOrRelease (s t : State) : Prop :=
  (s.ks = .cand ∧ t.ks = .pressed) ∨ (s.ks = .pressed ∧ t.ks = .idle)

/-- Of the arms of the keyboard step, only the confirmation and the release ask for a blink. -/
theorem KbdMove.noBlink_or_pressOrRelease {P : Config.Params} {pol : Config.Policies} {t : Time} {s u : State}
    (h : KbdMove P pol t s u) : NoBlink s u ∨ pressOrRelease s u := by
  cases h with
  | confirm bs hk => exact .inr (.inl ⟨hk, by simp [confirmPress]⟩)
  | release bs hk => exact .inr (.inr ⟨hk, rfl⟩)
  | wait => exact .inl ⟨id, rfl, rfl⟩
  | noKey | held | arm | reject => exact .inl (by constructor <;> simp)
  | again => exact .inl (by constructor <;> simp [repeatKey])

/-- A step takes no blink request, or it is a keyboard step that confirms a press or releases the key. -/
theorem stepWith_noBlink_or_pressOrRelease {P : Config.Params} {s t : State} (h : stepWith P s = .next t) :
    NoBlink s t ∨ (s.atKeyboard ∧ pressOrRelease s t) := by
  cases stepWith_cases h with
  | held => exact .inl (awaitBytes_keeps_keyboard s 1).noBlink
  | parameter p rest u hw _ hu =>
    have hreply := (completeParameter_cases hw hu).1
    exact .inl (replied_keeps_keyboard .diag (awaitBytes_keeps_keyboard s 1) hreply).noBlink
  | keyboard u hw hp _ hu =>
    refine hu.noBlink_or_pressOrRelease.imp (fun hdark => ?_) fun hmove => ⟨⟨hp, hw⟩, hmove⟩
    exact { hdark with }
  | host t _ _ hm => exact .inl hm.keeps_keyboard.noBlink
  | diag => exact .inl ⟨id, rfl, rfl⟩
  | led => exact .inl { ledDecay_noBlink s.readClock.now s.readClock with }

/-- Settles O48: a lit LED or a changed deadline rules out a step that takes no request. -/
theorem ledRequestedOnlyOnPressAndRelease : Obligations.LedRequestedOnlyOnPressAndRelease := by
  intro P s t h hblink
  refine (stepWith_noBlink_or_pressOrRelease h).resolve_left fun hno => ?_
  rcases hblink with ⟨hoff, hon⟩ | hchanged | hchanged
  · simp [hno.dark hoff] at hon
  · exact hchanged hno.ledOffDl
  · exact hchanged hno.ledNextDl

end Sys2Proof.Machine
end

section
/-! PROOFS. Holds and the diagnostic channel (spec/60_exceptions.md R300 to R303, R311, R320 to R322): a parameter read
holds while the host is silent, the invariant lets every step go on, and what each character does to the diagnostic
step. -/

namespace Sys2Proof.Machine

/-! ### The parameter hold (R303) -/

/-- An answer of the host agent that offers nothing is only taken off its script. -/
theorem State.askHost_of_silent {s : State} {offers : List (Option Byte)} (h : s.hostScript = none :: offers) :
    s.askHost = { s with hostScript := offers } := by
  simp [State.askHost, State.nextOffer, h]

/-- A held block that finds no byte stays as the consultation of the transport left it. -/
theorem parameterStep_of_nothing {s : State} (h : (s.awaitBytes 1).rx = []) :
    parameterStep s = .next (s.awaitBytes 1) := by
  simp [parameterStep, h]

theorem step_of_silent_host {s : State} {offers : List (Option Byte)} (hw : s.hostWait ≠ .none) (hrx : s.rx = [])
    (h : s.hostScript = none :: offers) : step s = .next { s with hostScript := offers } := by
  have hasked : s.awaitBytes 1 = { s with hostScript := offers } := by
    rw [State.awaitBytes_of_lt (by simp [hrx]), State.askHost_of_silent h]
  rw [step, subStep_waiting hw, parameterStep_of_nothing (by rw [hasked]; exact hrx), hasked]

/-- A run begins with its first step. -/
theorem run_succ_of_step {s u : State} (n : Nat) (h : step s = .next u) :
    Host.Core.run Sys2Proof.core (n + 1) s = Host.Core.run Sys2Proof.core n u := by
  have hstep : Sys2Proof.core.step s = .next u := h
  simp only [Host.Core.run, hstep]

/-- Settles O21, by induction on the number of steps: each takes one silent answer off the host agent's script. -/
theorem holdLastsUntilHostByte : Obligations.HoldLastsUntilHostByte := by
  intro n
  induction n with
  | zero =>
    intro s offers _ _ hscript
    obtain rfl : s.hostScript = offers := hscript
    rfl
  | succ n ih =>
    intro s offers hw hrx hscript
    rw [run_succ_of_step n (step_of_silent_host hw hrx hscript)]
    exact ih _ offers hw hrx rfl

/-! ### The invariant and the absence of stops (R145, R300) -/

/-- Settles O56: no sub-step stops where R48 holds (`State.Inv.step_goes_on`). -/
theorem invariantNeverStops : Obligations.InvariantNeverStops :=
  fun _ _ ha hi => hi.step_goes_on ha

/-! ### Hex digits (R321) -/

section
variable {c : Byte}

theorem hexValue_decimal (h : 0x30 ≤ c.toNat ∧ c.toNat ≤ 0x39) :
    ∃ d, hexValue c = some d ∧ d.toNat = c.toNat - 0x30 :=
  ⟨_, if_pos h, by rw [BitVec.toNat_ofNat]; omega⟩

theorem hexValue_upper (h : 0x41 ≤ c.toNat ∧ c.toNat ≤ 0x46) :
    ∃ d, hexValue c = some d ∧ d.toNat = c.toNat - 0x41 + 10 :=
  ⟨_, by rw [hexValue, if_neg (by omega), if_pos h], by rw [BitVec.toNat_ofNat]; omega⟩

theorem hexValue_lower (h : 0x61 ≤ c.toNat ∧ c.toNat ≤ 0x66) :
    ∃ d, hexValue c = some d ∧ d.toNat = c.toNat - 0x61 + 10 :=
  ⟨_, by rw [hexValue, if_neg (by omega), if_neg (by omega), if_pos h], by rw [BitVec.toNat_ofNat]; omega⟩

theorem hexValue_other (hdecimal : ¬ (0x30 ≤ c.toNat ∧ c.toNat ≤ 0x39))
    (hupper : ¬ (0x41 ≤ c.toNat ∧ c.toNat ≤ 0x46)) (hlower : ¬ (0x61 ≤ c.toNat ∧ c.toNat ≤ 0x66)) :
    hexValue c = none := by
  rw [hexValue, if_neg hdecimal, if_neg hupper, if_neg hlower]

end

/-- Two hex digits side by side are the byte 16 * high + low. -/
theorem hexPair_eq {high low : BitVec 4} {x : Byte} (h : x.toNat = 16 * high.toNat + low.toNat) : high ++ low = x := by
  apply BitVec.eq_of_toNat_eq
  rw [BitVec.toNat_append, ← Nat.shiftLeft_add_eq_or_of_lt low.isLt, Nat.shiftLeft_eq, h]
  omega

/-! ### The diagnostic step by its mode and the character that comes (R311, R320 to R322) -/

/-- The state at another place of a diagnostic command. -/
def State.inDiagMode (s : State) (m : DiagMode) : State := { s with diagMode := m }

@[simp] theorem State.inDiagMode_diagMode (s : State) (m : DiagMode) : (s.inDiagMode m).diagMode = m := rfl
@[simp] theorem State.inDiagMode_nextDiag (s : State) (m : DiagMode) : (s.inDiagMode m).nextDiag = s.nextDiag := rfl
@[simp] theorem State.inDiagMode_askDiag (s : State) (m : DiagMode) :
    (s.inDiagMode m).askDiag = s.askDiag.inDiagMode m := rfl
@[simp] theorem State.inDiagMode_inDiagMode (s : State) (m m' : DiagMode) :
    (s.inDiagMode m).inDiagMode m' = s.inDiagMode m' := rfl

/-- With no command under way, ending one is moving PHASE on. -/
theorem State.endDiag_of_ready {s : State} (h : s.diagMode = .ready) : s.endDiag = s.setPhase .led := by
  rw [State.endDiag, ← h]
  rfl

section
variable {s : State} {c : Byte}

theorem diagStep_ready_silent (hm : s.diagMode = .ready) (hc : s.nextDiag = none) :
    diagStep true s = .next s.askDiag.endDiag := by
  simp [diagStep, diagPresentStep, hm, hc]

theorem diagStep_ready_char (hm : s.diagMode = .ready) (hc : s.nextDiag = some c) :
    diagStep true s = .next (diagCommand c s.askDiag) := by
  simp [diagStep, diagPresentStep, hm, hc]

theorem diagStep_hexHigh_silent (hm : s.diagMode = .hexHigh) (hc : s.nextDiag = none) :
    diagStep true s = .next s.askDiag := by
  simp [diagStep, diagPresentStep, hm, hc]

theorem diagStep_hexHigh_digit {h : BitVec 4} (hm : s.diagMode = .hexHigh) (hc : s.nextDiag = some c)
    (hv : hexValue c = some h) : diagStep true s = .next (s.askDiag.inDiagMode (.hexLow h)) := by
  simp [diagStep, diagPresentStep, hm, hc, hv, State.inDiagMode]

theorem diagStep_hexHigh_refuses (hm : s.diagMode = .hexHigh) (hc : s.nextDiag = some c) (hv : hexValue c = none) :
    diagStep true s = .refused .diagNonHex := by
  simp [diagStep, diagPresentStep, hm, hc, hv]

theorem diagStep_hexLow_silent {h : BitVec 4} (hm : s.diagMode = .hexLow h) (hc : s.nextDiag = none) :
    diagStep true s = .next s.askDiag := by
  simp [diagStep, diagPresentStep, hm, hc]

theorem diagStep_hexLow_digit {h l : BitVec 4} (hm : s.diagMode = .hexLow h) (hc : s.nextDiag = some c)
    (hv : hexValue c = some l) : diagStep true s = .next (diagSend h l s.askDiag) := by
  simp [diagStep, diagPresentStep, hm, hc, hv]

theorem diagStep_hexLow_refuses {h : BitVec 4} (hm : s.diagMode = .hexLow h) (hc : s.nextDiag = some c)
    (hv : hexValue c = none) : diagStep true s = .refused .diagNonHex := by
  simp [diagStep, diagPresentStep, hm, hc, hv]

theorem diagStep_rawLoop_silent (hm : s.diagMode = .rawLoop) (hc : s.nextDiag = none) :
    diagStep true s = .next (rawPass s.askDiag) := by
  simp [diagStep, diagPresentStep, hm, hc]

theorem diagStep_rawLoop_char (hm : s.diagMode = .rawLoop) (hc : s.nextDiag = some c) :
    diagStep true s = .next s.askDiag.endDiag := by
  simp [diagStep, diagPresentStep, hm, hc]

end

/-! ### The characters of a command (R320, R321) -/

theorem diagCommand_d (s : State) : diagCommand 0x64 s = diagDump s := rfl
theorem diagCommand_s (s : State) : diagCommand 0x73 s = s.inDiagMode .hexHigh := rfl
theorem diagCommand_r (s : State) : diagCommand 0x72 s = s.inDiagMode .rawLoop := rfl

theorem diagCommand_other {c : Byte} (hd : c ≠ 0x64) (hs : c ≠ 0x73) (hr : c ≠ 0x72) (s : State) :
    diagCommand c s = s.endDiag := by
  rw [diagCommand, if_neg hd, if_neg hs, if_neg hr]

/-- `d` with no command under way: one output, and PHASE moves on. -/
theorem diagDump_of_ready {s : State} (h : s.diagMode = .ready) :
    diagDump s = { s with
      phase := .led
      diagOut := s.diagOut ++ [.keyDump s.candPos s.pressedPos (Config.diagText s.draws)]
      draws := s.draws + 1 } := by
  rw [diagDump, State.endDiag_of_ready (by simpa using h)]
  rfl

/-- The pair that two digits send ends a command that began with none under way (R321). -/
theorem diagSend_inDiagMode {s : State} {h l : BitVec 4} {x : Byte} (hx : x.toNat = 16 * h.toNat + l.toNat)
    (hm : s.diagMode = .ready) (m : DiagMode) :
    diagSend h l (s.inDiagMode m) = { s with
      phase := .led
      tx := s.tx ++ [x, 0xF0, x]
      trace := s.trace ++ [.tx x, .tx 0xF0, .tx x] } := by
  rw [diagSend, hexPair_eq hx, hm]
  rfl

/-! ### `s` and its two digits (R321) -/

section
variable {s : State} (hm : s.diagMode = .ready) (hs : s.nextDiag = some 0x73)
include hm hs

theorem diagStep_of_s : diagStep true s = .next (s.askDiag.inDiagMode .hexHigh) := by
  rw [diagStep_ready_char hm hs, diagCommand_s]

theorem diagSteps_of_s_nonHex {c : Byte} (hc : s.askDiag.nextDiag = some c) (hv : hexValue c = none) :
    andThen (diagStep true s) (diagStep true) = .refused .diagNonHex := by
  rw [diagStep_of_s hm hs, andThen_next]
  exact diagStep_hexHigh_refuses (by simp) (by simpa using hc) hv

variable {c₁ c₀ : Byte} {h : BitVec 4} (h₁ : s.askDiag.nextDiag = some c₁) (hv₁ : hexValue c₁ = some h)
  (h₀ : s.askDiag.askDiag.nextDiag = some c₀)
include h₁ hv₁

theorem diagSteps_of_s_digit (f : State → Result) :
    andThen (diagStep true s) (fun a => andThen (diagStep true a) f) =
      f (s.askDiag.askDiag.inDiagMode (.hexLow h)) := by
  rw [diagStep_of_s hm hs, andThen_next, diagStep_hexHigh_digit (by simp) (by simpa using h₁) hv₁, andThen_next,
    State.inDiagMode_askDiag, State.inDiagMode_inDiagMode]

include h₀

theorem diagSteps_of_s_digit_nonHex (hv₀ : hexValue c₀ = none) :
    andThen (diagStep true s) (fun a => andThen (diagStep true a) (diagStep true)) = .refused .diagNonHex := by
  rw [diagSteps_of_s_digit hm hs h₁ hv₁]
  exact diagStep_hexLow_refuses (State.inDiagMode_diagMode _ _) (by simpa using h₀) hv₀

theorem diagSteps_of_s_pair {l : BitVec 4} {x : Byte} (hv₀ : hexValue c₀ = some l)
    (hx : x.toNat = 16 * h.toNat + l.toNat) :
    andThen (diagStep true s) (fun a => andThen (diagStep true a) (diagStep true)) =
      .next { s.askDiag.askDiag.askDiag with
        phase := .led
        tx := s.tx ++ [x, 0xF0, x]
        trace := s.trace ++ [.tx x, .tx 0xF0, .tx x] } := by
  rw [diagSteps_of_s_digit hm hs h₁ hv₁,
    diagStep_hexLow_digit (State.inDiagMode_diagMode _ _) (by simpa using h₀) hv₀, State.inDiagMode_askDiag,
    diagSend_inDiagMode hx (by simpa using hm)]
  rfl

end

/-- Settles O59, by the mode of the diagnostic step and the character that comes. -/
theorem diagnosticCommands : Obligations.DiagnosticCommands := by
  refine ⟨fun c => ⟨hexValue_decimal, hexValue_upper, hexValue_lower, hexValue_other⟩, fun s hm hc => ?waits,
    fun s _ hm => ⟨fun hc => ?silent, fun hc => ⟨Config.diagText s.askDiag.draws, ?dump⟩, fun hc => ?raw,
      fun c hc hd hs hr => ?other, fun c₁ c₀ hs h₁ h₀ =>
        ⟨fun h l x hv₁ hv₀ hx => ?pair, fun hv₁ => ?firstRefused, fun h hv₁ hv₀ => ?secondRefused⟩⟩⟩
  case waits =>
    obtain hm | ⟨h, hm⟩ := hm
    · exact diagStep_hexHigh_silent hm hc
    · exact diagStep_hexLow_silent hm hc
  case silent => rw [diagStep_ready_silent hm hc, State.endDiag_of_ready (by simpa using hm)]; rfl
  case dump => rw [diagStep_ready_char hm hc, diagCommand_d, diagDump_of_ready (by simpa using hm)]; rfl
  case raw => rw [diagStep_ready_char hm hc, diagCommand_r]; rfl
  case other =>
    rw [diagStep_ready_char hm hc, diagCommand_other hd hs hr, State.endDiag_of_ready (by simpa using hm)]; rfl
  case pair => exact diagSteps_of_s_pair hm hs h₁ hv₁ h₀ hv₀ hx
  case firstRefused => exact diagSteps_of_s_nonHex hm hs h₁ hv₁
  case secondRefused => exact diagSteps_of_s_digit_nonHex hm hs h₁ hv₁ h₀ hv₀

/-! ### The raw loop (R322) -/

/-- A pass of the raw loop: the samples of ten columns and one line of them, COL_SEL idle, and MODS_LIVE any value. -/
theorem rawPass_frame (s : State) : ∃ text mods draws, rawPass s = { s with
    modsLive := mods
    colSel := Config.colIdle
    diagOut := s.diagOut ++ [.rawLine ((samplesOf scanOrder s).map fun x => ~~~x.2) text]
    rowScript := s.rowScript.drop 10
    draws := draws
    trace := s.trace ++ ((samplesOf scanOrder s).flatMap fun x =>
      [.colSel (columnCode (some x.1)), .settleWait, .rowSample x.2]) ++ [.colSel Config.colIdle] } := by
  obtain ⟨col, draws, hsampled⟩ : ∃ col draws, afterSamples scanOrder s = { s with
      colSel := col
      trace := (afterSamples scanOrder s).trace
      rowScript := s.rowScript.drop 10
      draws := draws } := ⟨_, _, afterSamples_frame scanOrder s⟩
  rw [afterSamples_trace] at hsampled
  rw [rawPass, hsampled]
  exact ⟨_, _, _, rfl⟩

/-- Settles O60, by the frame of a pass, after the diagnostic terminal was asked. -/
theorem diagnosticRawLoopHolds : Obligations.DiagnosticRawLoopHolds := by
  refine fun s _ hm => ⟨fun hc => ?pass, fun c hc => ?ends⟩
  case pass =>
    obtain ⟨text, mods, draws, hpass⟩ := rawPass_frame s.askDiag
    exact ⟨text, mods, draws, by rw [diagStep_rawLoop_silent hm hc, hpass]; rfl⟩
  case ends => rw [diagStep_rawLoop_char hm hc]; rfl

end Sys2Proof.Machine
end

section
/-! PROOFS. Hazards of the clock (spec/70_reset_and_hazards.md R354; spec/00_scope.md R11): a deadline whose sum wraps is
met at once, and the last clock value meets a deadline that no other clock value meets. -/

namespace Sys2Proof.Machine

/-! ### A deadline whose sum wraps (R354 (a)) -/

/-- One turn of the clock is all that two 32-bit values can make. -/
theorem timeAdd_toNat_of_wraps {a b : Time} (h : 2 ^ 32 ≤ a.toNat + b.toNat) :
    (timeAdd a b).toNat + 2 ^ 32 = a.toNat + b.toNat := by
  have ha := a.isLt
  have hb := b.isLt
  simp only [timeAdd, BitVec.toNat_add]
  omega

theorem timeReached_timeAdd_of_lt {now d : Time} (h : now.toNat + d.toNat < 2 ^ 32) :
    timeReached now (timeAdd now d) = true ↔ d = 0 := by
  calc timeReached now (timeAdd now d) = true
      ↔ now.toNat + d.toNat ≤ now.toNat := by rw [timeReached_iff, timeAdd_toNat_of_lt h]
    _ ↔ d.toNat = 0 := by omega
    _ ↔ d = 0 := BitVec.toNat_inj (y := 0)

theorem timeReached_timeAdd_of_wraps {now d : Time} (h : 2 ^ 32 ≤ now.toNat + d.toNat) :
    timeReached now (timeAdd now d) = true := by
  have hsum := timeAdd_toNat_of_wraps h
  have hd := d.isLt
  exact timeReached_iff.mpr (by omega)

/-! ### The last clock value (R354 (b)) -/

theorem timeReached_last_iff (now : Time) : timeReached now 0xFFFFFFFF = true ↔ now = 0xFFFFFFFF := by
  rw [timeReached_iff, ← BitVec.le_def]
  exact BitVec.allOnes_le_iff

/-- Settles O43, by whether the sum of the clock and the duration wraps. -/
theorem deadlineWrapExposure : Obligations.DeadlineWrapExposure := by
  refine fun now d => ⟨?armed, timeReached_last_iff now⟩
  case armed =>
    obtain hlt | hwraps := Nat.lt_or_ge (now.toNat + d.toNat) (2 ^ 32)
    · rw [timeReached_timeAdd_of_lt hlt, or_iff_left hlt.not_ge]
    · exact iff_of_true (timeReached_timeAdd_of_wraps hwraps) (.inr hwraps)

end Sys2Proof.Machine
end
